-- ==== Sys2Proof/Word.lean ====
section
/-!
DEFINITION. The widths of the block's words (00_scope.md R8, R10): a command word, its payload, an event word, a
readback word, and the bytes and pin numbers inside them. Every value is unsigned (R10).
-/
namespace Sys2Proof

/-- A byte is 8 bits (R10). -/
abbrev Byte := BitVec 8

/-- PIN_W: a pin number is 8 bits, unsigned (R8). -/
abbrev PinNum := BitVec 8

/-- POS_W: the field of a logical position, 0..7 = C0..C7 and 8..15 = R0..R7 (R8, R16). -/
abbrev PosField := BitVec 4

/-- OFF_W: a bit offset within the shift byte (R8). -/
abbrev Offset := BitVec 3

/-- CNT_W: an array count, legal 0..8 (R8). -/
abbrev Count := BitVec 4

/-- RowColBits: bits 0..7 are columns C0..C7, bits 8..15 are rows R0..R7 (20_memory.md R64). -/
abbrev RowColBits := BitVec 16

/-- CMD_W: a command word is 72 bits (R8, 30_encoding.md R80). -/
abbrev CmdWord := BitVec 72

/-- The operand part of a command word (R80). -/
abbrev Payload := BitVec 64

/-- EVT_W: an event word is 44 bits (R8, R95). -/
abbrev EventWord := BitVec 44

/-- RD_DATA_W: a readback word is 64 bits (R8). -/
abbrev ReadWord := BitVec 64

/-- A logical position as an index, 0..15 (R60). -/
abbrev Pos := Fin 16

end Sys2Proof
end

