-- ==== Sys2Proof/Config.lean ====
section
/-!
DEFINITION. What an implementation fixes. The fixed parameters of 00_scope.md R7 are constants. The open parameters of
R9 and the values 93_implementation_defined.md calls "any value" (U9, U10) are opaque constants with no body: no proof
can see what they are, so a claim holds whatever they are.
-/
namespace Sys2Proof.Config

/-- GROUP_THRESHOLD of R7: pins below 8 are in the LO group, the others in the HI group. -/
abbrev groupThreshold : Nat := 8

/-- MAX_N of R7: the most entries of each wire-assignment array, the largest legal count. -/
abbrev maxN : Nat := 8

/-- The blank pattern BLANK (43_output_compiler.md R181): every row bit 1, every column bit 0. -/
abbrev blank : RowColBits := 0xFF00

/-- DEFAULT_HARD_RC of R9: the reset value of HARD_RC, entry by entry. Open: no value is assumed (log 4). -/
opaque defaultHardRc : Fin 8 → PosField

/-- DEFAULT_SHIFT_RC of R9: the reset value of SHIFT_RC. Open (log 4). -/
opaque defaultShiftRc : Fin 8 → PosField

/-- DEFAULT_SHIFT_OFF of R9: the reset value of SHIFT_OFF. Open (log 4). -/
opaque defaultShiftOff : Fin 8 → Offset

/-- GPIO_INIT of R9: PORT_LO before the block's first event. Open (log 5). -/
opaque gpioInitPortLo : Byte

/-- GPIO_INIT of R9: PORT_HI before the block's first event. Open (log 5). -/
opaque gpioInitPortHi : Byte

/-- GPIO_INIT of R9: DDR_LO before the block's first event. Open (log 5). -/
opaque gpioInitDdrLo : Byte

/-- GPIO_INIT of R9: DDR_HI before the block's first event. Open (log 5). -/
opaque gpioInitDdrHi : Byte

/-- SR_ORDER of R9: parallel output q of the external shift register shows SR_OUT[SR_ORDER q]. A permutation of 0..7,
otherwise open (log 7). -/
opaque srOrder : Equiv.Perm (Fin 8)

/-- SR_BUF at reset: any value (93_implementation_defined.md U9; log 6). -/
opaque srBufInit : Byte

/-- SR_OUT at reset: any value (93_implementation_defined.md U9; log 6). -/
opaque srOutInit : Byte

/-- The bit shifted in at the n-th clock edge whose data bit the spec calls any value (60_exceptions.md R273,
93_implementation_defined.md U10; log 8): a fresh free value for every such edge. -/
opaque clockedBit : Nat → Bool

end Sys2Proof.Config
end

