-- ==== Sys2Proof/Machine/State.lean ====
section
/-!
DEFINITION. The state of the machine as plain data: the core registers of 10_state.md, the event channel and the ports of
20_memory.md, the environment's reference models of 60_exceptions.md R272 and R273, and the state after reset (R43).
-/
namespace Sys2Proof.Machine

/-- PHASE (R22). -/
inductive Phase where
  /-- 0: configuration may be written; no object constructed -/
  | unconfigured
  /-- 1: constructed; pixel set, flip and refresh allowed -/
  | ready
  /-- 2: destroyed; only reset leaves it -/
  | dead
  /-- 3: an undefined condition was reached; only reset leaves it -/
  | fault
  deriving DecidableEq, Repr

/-- One entry of the PinRoute table (R37). -/
inductive Route where
  /-- no mapping claims the position (41_pin_router.md R143) -/
  | unresolved
  /-- a microcontroller pin -/
  | direct (pin : PinNum)
  /-- a bit of the shift byte -/
  | shifted (off : Offset)
  deriving DecidableEq, Repr

/-- One slot of the OutputFrame: LO, HI and the shift byte SH (R38). -/
structure Slot where
  lo : Byte
  hi : Byte
  sh : Byte
  deriving DecidableEq, Repr

/-- One of the two direct-GPIO register groups (20_memory.md R62). -/
inductive Group where
  | lo
  | hi
  deriving DecidableEq, Repr

/-- One request of the core to an external collaborator (20_memory.md R63, 30_encoding.md R95). -/
inductive Event where
  /-- GPIO `configureAsOutput(pin)` -/
  | dirOut (pin : PinNum)
  /-- GPIO `setHigh(pin)` (true) or `setLow(pin)` (false) -/
  | pin (pin : PinNum) (level : Bool)
  /-- one whole direct-GPIO register group is written -/
  | group (g : Group) (byte : Byte)
  /-- the delay service's blocking wait, in microseconds -/
  | delay (us : BitVec 32)
  /-- the diagnostic sink's message -/
  | diag (code : Byte)
  deriving DecidableEq, Repr

/-- SHIFT_PINS, the shift-control pin triple (R29). -/
structure ShiftPins where
  data : PinNum
  sclk : PinNum
  latch : PinNum
  deriving DecidableEq, Repr

/-- The WireAssignment (00_scope.md R16): HARD_PINS, HARD_RC, SHIFT_RC, SHIFT_OFF, HARD_N, SHIFT_N (R30 to R34). -/
structure Wiring where
  hardPins : Vector PinNum 8
  hardRc : Vector PosField 8
  shiftRc : Vector PosField 8
  shiftOff : Vector Offset 8
  hardN : Count
  shiftN : Count
  deriving DecidableEq, Repr

/-- The core registers (R22 to R38). -/
structure Regs where
  /-- PHASE (R22) -/
  phase : Phase
  /-- FRESH: the last accepted command was CONSTRUCT (R23) -/
  fresh : Bool
  /-- FLIPPED (R24) -/
  flipped : Bool
  /-- SP_WRITTEN: CFG_SHIFT_PINS was accepted (R25) -/
  spWritten : Bool
  /-- HP_WRITTEN: CFG_HARD_PINS was accepted (R25) -/
  hpWritten : Bool
  /-- FRAME_VALID (R26) -/
  frameValid : Bool
  /-- the eight implemented bits of STATUS (R27) -/
  status : BitVec 8
  /-- DATA_PIN, SCLK_PIN, LATCH_PIN (R29) -/
  shiftPins : ShiftPins
  /-- the WireAssignment (R30 to R34) -/
  wiring : Wiring
  /-- PIXELS (R35) -/
  pixels : Vector Byte 8
  /-- PATTERN (R36) -/
  pattern : Vector RowColBits 8
  /-- ROUTE (R37) -/
  route : Vector Route 16
  /-- FRAME (R38) -/
  frame : Vector Slot 16
  deriving DecidableEq, Repr

/-- The environment's state: the reference GPIO model (60_exceptions.md R272) and the reference shift register (R273).
No core rule reads it (10_state.md R41). -/
structure Env where
  /-- output levels of pins 0..7 -/
  portLo : Byte
  /-- output levels of the HI group -/
  portHi : Byte
  /-- directions of pins 0..7, 1 = output -/
  ddrLo : Byte
  /-- directions of the HI group -/
  ddrHi : Byte
  /-- SR_BUF, the shift register's internal buffer -/
  srBuf : Byte
  /-- SR_OUT, the shift register's output latch -/
  srOut : Byte
  deriving DecidableEq, Repr

/-- One move of the outside world (00_scope.md R15, 60_exceptions.md R270). -/
inductive Input where
  /-- the host presents a command word; it is accepted when the block is not BUSY (20_memory.md R61) -/
  | command (word : CmdWord)
  /-- the host reads an address; the answer is held while the block is BUSY (R66) -/
  | readback (addr : BitVec 8)
  /-- the reset input (70_reset_and_hazards.md R290) -/
  | reset
  /-- the environment accepts the presented event (R63) -/
  | accept
  /-- the environment does not accept yet, a wait has not elapsed (R63, 93_implementation_defined.md U11) -/
  | stall
  deriving DecidableEq, Repr

/-- The machine. `pending` holds the events of the command in progress that the environment has not accepted; the block
is BUSY exactly while it is not empty (R42, log 1). `trace` is the event trace, oldest first (R13, R63). `inputs`,
`answers` and `draws` are the model's own: the moves still to come, the readback answers given, oldest first, and the
count of free clock bits taken (logs 2, 8, 14). -/
structure State where
  regs : Regs
  pending : List Event
  trace : List Event
  inputs : List Input
  answers : List (BitVec 8 × ReadWord)
  env : Env
  draws : Nat
  deriving DecidableEq, Repr

/-- Why the machine stops with a fault: never. The spec's own fault is a phase of the block (R256), a next state. -/
inductive Fault where
  deriving DecidableEq, Repr

/-- Why an instruction has no meaning. -/
inductive Refusal where
  /-- An instruction whose arm of `exec` is not written yet; raised by no arm of this model. It would be safe: the run
  stops where the hardware goes on. -/
  | notModelled (mnemonic : String)
  deriving DecidableEq, Repr

/-- SHIFT_PINS after reset (R43). -/
def ShiftPins.reset : ShiftPins := { data := 0, sclk := 0, latch := 0 }

/-- The WireAssignment after reset: pins 0, the arrays at the open parameters of 00_scope.md R9, counts 8 and 8 (R43). -/
def Wiring.reset : Wiring where
  hardPins := Vector.replicate 8 0
  hardRc := Vector.ofFn Config.defaultHardRc
  shiftRc := Vector.ofFn Config.defaultShiftRc
  shiftOff := Vector.ofFn Config.defaultShiftOff
  hardN := 8
  shiftN := 8

/-- A slot with every byte 0 (R43, 43_output_compiler.md R187). -/
def Slot.zero : Slot := { lo := 0, hi := 0, sh := 0 }

/-- The core registers after reset (R43). -/
def Regs.reset : Regs where
  phase := .unconfigured
  fresh := false
  flipped := false
  spWritten := false
  hpWritten := false
  frameValid := false
  status := 0
  shiftPins := ShiftPins.reset
  wiring := Wiring.reset
  pixels := Vector.replicate 8 0
  pattern := Vector.replicate 8 0xFF00
  route := Vector.replicate 16 .unresolved
  frame := Vector.replicate 16 Slot.zero

/-- The environment before the block's first event: GPIO_INIT (00_scope.md R9) and an unspecified shift register
(93_implementation_defined.md U9). -/
def Env.initial : Env where
  portLo := Config.gpioInitPortLo
  portHi := Config.gpioInitPortHi
  ddrLo := Config.gpioInitDdrLo
  ddrHi := Config.gpioInitDdrHi
  srBuf := Config.srBufInit
  srOut := Config.srOutInit

/-- The machine right after power-on reset: the core registers of R43, BUSY = 0, nothing emitted, the block waiting for
the first command word (70_reset_and_hazards.md R290, R291). -/
def State.reset : State where
  regs := Regs.reset
  pending := []
  trace := []
  inputs := []
  answers := []
  env := Env.initial
  draws := 0

end Sys2Proof.Machine
end

