-- ==== Sys2Proof/Machine/Flags.lean ====
section
/-!
DEFINITION. STATUS, the only flag register (10_state.md R27, R28): its bits by name and the one operation that sets them.
A bit is sticky: nothing here clears one.
-/
namespace Sys2Proof.Machine

/-- The causes of 60_exceptions.md R258; a cause's code is its STATUS bit number. -/
inductive Cause where
  | errIllegal | errState | errValue | errFlipMismatch
  | warnLateFlip | warnDupClaim | warnUncovered | faultUnresolved
  deriving DecidableEq, Repr

/-- The cause code (R258): the STATUS bit number (R27). -/
def Cause.code : Cause → Nat
  | .errIllegal => 0
  | .errState => 1
  | .errValue => 2
  | .errFlipMismatch => 3
  | .warnLateFlip => 4
  | .warnDupClaim => 5
  | .warnUncovered => 6
  | .faultUnresolved => 7

/-- The STATUS word with only this cause's bit set. -/
def Cause.mask (c : Cause) : BitVec 8 := 1#8 <<< c.code

/-- SetStatus(B) of 00_scope.md R13: the sticky bit becomes 1, the others stay. -/
def Regs.setStatus (c : Cause) (r : Regs) : Regs := { r with status := r.status ||| c.mask }

/-- SetStatus(B) when a condition holds. -/
def Regs.setStatusIf (b : Bool) (c : Cause) (r : Regs) : Regs := if b then r.setStatus c else r

/-- One STATUS bit. -/
def Regs.statusBit (r : Regs) (c : Cause) : Bool := r.status.getLsbD c.code

end Sys2Proof.Machine
end

