-- ==== Sys2Proof/Syntax.lean ====
section
/-!
DEFINITION. The twelve commands (30_encoding.md R82) with their operands as typed fields (R81, R83), the payload formats
(R81), and the assembler's source lines (R87).
-/
namespace Sys2Proof

/-- The seven payload formats of R81. -/
inductive Format where
  | none | pins3 | bytes8 | nib8 | off8 | cnt | delay
  deriving DecidableEq, Repr

/-- The twelve command names, in the order of the opcode map R82. -/
inductive Op where
  | cfgShiftPins | cfgHardPins | cfgHardRc | cfgShiftRc | cfgShiftOff | cfgCounts
  | construct | flip | setPixels | refresh | refreshWait | shutdown
  deriving DecidableEq, Repr

/-- One command with its operands. Array operands are in array order, element 0 first (R65, R83). -/
inductive Instr where
  /-- CFG_SHIFT_PINS data, sclk, latch (R111) -/
  | cfgShiftPins (data sclk latch : PinNum)
  /-- CFG_HARD_PINS p0..p7 (R112) -/
  | cfgHardPins (pins : Vector PinNum 8)
  /-- CFG_HARD_RC q0..q7 (R113) -/
  | cfgHardRc (rc : Vector PosField 8)
  /-- CFG_SHIFT_RC q0..q7 (R114) -/
  | cfgShiftRc (rc : Vector PosField 8)
  /-- CFG_SHIFT_OFF o0..o7 (R115) -/
  | cfgShiftOff (off : Vector Offset 8)
  /-- CFG_COUNTS hard_n, shift_n (R116); values 9..15 encode and are rejected when executed -/
  | cfgCounts (hn sn : Count)
  /-- CONSTRUCT row0..row7 (R117) -/
  | construct (rows : Vector Byte 8)
  /-- FLIP (R230) -/
  | flip
  /-- SET_PIXELS row0..row7 (R120) -/
  | setPixels (rows : Vector Byte 8)
  /-- REFRESH (R206) -/
  | refresh
  /-- REFRESH_WAIT us (R207) -/
  | refreshWait (us : BitVec 32)
  /-- SHUTDOWN (R121) -/
  | shutdown
  deriving DecidableEq, Repr

/-- The name of a command. -/
def Instr.op : Instr → Op
  | .cfgShiftPins _ _ _ => .cfgShiftPins
  | .cfgHardPins _ => .cfgHardPins
  | .cfgHardRc _ => .cfgHardRc
  | .cfgShiftRc _ => .cfgShiftRc
  | .cfgShiftOff _ => .cfgShiftOff
  | .cfgCounts _ _ => .cfgCounts
  | .construct _ => .construct
  | .flip => .flip
  | .setPixels _ => .setPixels
  | .refresh => .refresh
  | .refreshWait _ => .refreshWait
  | .shutdown => .shutdown

/-- Why a word is no command (R84, R85). Both are reported as ERR_ILLEGAL (R250). -/
inductive DecodeError where
  /-- the opcode is not in the map R82 -/
  | illegalOpcode
  /-- the opcode is legal and a reserved payload bit of its format is 1 -/
  | reservedBits
  deriving DecidableEq, Repr

/-- An assembler operand (R87): a number, or the name of a logical position, C0..C7 (0..7) or R0..R7 (8..15). -/
inductive AsmOperand where
  | num (n : Nat)
  | position (p : Pos)
  deriving DecidableEq, Repr

/-- What an assembler line may name: a command, or one of the pseudo-instructions of R88. -/
inductive AsmName where
  | op (o : Op)
  | blank
  | showWait
  | refreshN
  deriving DecidableEq, Repr

/-- One assembler line after its text is read: a name and its operands, in order (R87). -/
structure AsmLine where
  name : AsmName
  operands : List AsmOperand
  deriving DecidableEq, Repr

/-- The assembly errors of R87, and the two the text itself can raise. -/
inductive AsmError where
  /-- a name that is no command and no pseudo-instruction -/
  | unknownMnemonic
  /-- a wrong operand count -/
  | operandCount
  /-- an operand out of its range -/
  | operandRange
  /-- an operand that is no number and no position name -/
  | badOperand
  deriving DecidableEq, Repr

end Sys2Proof
end

