-- ==== Sys2Proof/Decode.lean ====
section
/-!
DEFINITION. Command words: the opcode map and the reserved bits (30_encoding.md R81, R82), the decoder, total on all
2^72 words (R84 to R86), and the encoder, both written from the same tables. A later repair may mend any definition here.
-/
namespace Sys2Proof

/-- OPC of each command (R82). -/
def Op.opcode : Op → BitVec 8
  | .cfgShiftPins => 0x01
  | .cfgHardPins => 0x02
  | .cfgHardRc => 0x03
  | .cfgShiftRc => 0x04
  | .cfgShiftOff => 0x05
  | .cfgCounts => 0x06
  | .construct => 0x10
  | .flip => 0x11
  | .setPixels => 0x12
  | .refresh => 0x20
  | .refreshWait => 0x21
  | .shutdown => 0x30

/-- The twelve commands, in the order of R82. -/
def Op.all : List Op :=
  [.cfgShiftPins, .cfgHardPins, .cfgHardRc, .cfgShiftRc, .cfgShiftOff, .cfgCounts,
   .construct, .flip, .setPixels, .refresh, .refreshWait, .shutdown]

/-- The payload format of each command (R82). -/
def Op.format : Op → Format
  | .cfgShiftPins => .pins3
  | .cfgHardPins => .bytes8
  | .cfgHardRc => .nib8
  | .cfgShiftRc => .nib8
  | .cfgShiftOff => .off8
  | .cfgCounts => .cnt
  | .construct => .bytes8
  | .flip => .none
  | .setPixels => .bytes8
  | .refresh => .none
  | .refreshWait => .delay
  | .shutdown => .none

/-- The reserved payload bits of each format, which must be 0 (R81, R85). -/
def Format.reserved : Format → Payload
  | .none => 0xFFFFFFFFFFFFFFFF
  | .pins3 => 0xFFFFFFFFFF000000
  | .bytes8 => 0
  | .nib8 => 0xFFFFFFFF00000000
  | .off8 => 0xFFFFFFFF88888888
  | .cnt => 0xFFFFFFFFFFFFFF00
  | .delay => 0xFFFFFFFF00000000

/-- OPC is bits [71:64] of the word (R80). -/
def opcOf (w : CmdWord) : BitVec 8 := w.extractLsb' 64 8

/-- PAYLOAD is bits [63:0] of the word (R80). -/
def payloadOf (w : CmdWord) : Payload := w.extractLsb' 0 64

/-- The word with this opcode and payload (R80). -/
def mkWord (opc : BitVec 8) (pl : Payload) : CmdWord := opc ++ pl

/-- The command an opcode selects, none for the 244 illegal ones (R82, R84). -/
def opOfOpcode (opc : BitVec 8) : Option Op := Op.all.find? fun o => o.opcode == opc

/-- Byte i of a payload: bits [8i+7:8i] (20_memory.md R65). -/
def byteField (pl : Payload) (i : Nat) : Byte := pl.extractLsb' (8 * i) 8

/-- Nibble i of a payload: bits [4i+3:4i] (R65). -/
def nibbleField (pl : Payload) (i : Nat) : PosField := pl.extractLsb' (4 * i) 4

/-- Offset field i of a payload: bits [4i+2:4i] (R81, format F_OFF8). -/
def offsetField (pl : Payload) (i : Nat) : Offset := pl.extractLsb' (4 * i) 3

/-- F_BYTES8: B0..B7 (R81). -/
def bytes8Fields (pl : Payload) : Vector Byte 8 := Vector.ofFn fun i => byteField pl i.val

/-- F_NIB8: Q0..Q7 (R81). -/
def nib8Fields (pl : Payload) : Vector PosField 8 := Vector.ofFn fun i => nibbleField pl i.val

/-- F_OFF8: O0..O7 (R81). -/
def off8Fields (pl : Payload) : Vector Offset 8 := Vector.ofFn fun i => offsetField pl i.val

/-- The command with its operand fields taken from the payload bit for bit (R81, R83). -/
def instrOf (o : Op) (pl : Payload) : Instr :=
  match o with
  | .cfgShiftPins => .cfgShiftPins (byteField pl 0) (byteField pl 1) (byteField pl 2)
  | .cfgHardPins => .cfgHardPins (bytes8Fields pl)
  | .cfgHardRc => .cfgHardRc (nib8Fields pl)
  | .cfgShiftRc => .cfgShiftRc (nib8Fields pl)
  | .cfgShiftOff => .cfgShiftOff (off8Fields pl)
  | .cfgCounts => .cfgCounts (nibbleField pl 0) (nibbleField pl 1)
  | .construct => .construct (bytes8Fields pl)
  | .flip => .flip
  | .setPixels => .setPixels (bytes8Fields pl)
  | .refresh => .refresh
  | .refreshWait => .refreshWait (pl.extractLsb' 0 32)
  | .shutdown => .shutdown

/-- The decoder: the first two acceptance checks of 60_exceptions.md R254, opcode before reserved bits. -/
def decode (w : CmdWord) : Except DecodeError Instr :=
  match opOfOpcode (opcOf w) with
  | none => .error .illegalOpcode
  | some o =>
    if payloadOf w &&& o.format.reserved = 0 then .ok (instrOf o (payloadOf w))
    else .error .reservedBits

/-- Eight bytes as a 64-bit word, byte 0 least significant (R65). -/
def packBytes8 (b : Vector Byte 8) : BitVec 64 :=
  b[7] ++ b[6] ++ b[5] ++ b[4] ++ b[3] ++ b[2] ++ b[1] ++ b[0]

/-- Eight nibbles in bits [31:0], nibble 0 least significant, bits [63:32] zero (R65, R81). -/
def packNib8 (q : Vector PosField 8) : BitVec 64 :=
  0#32 ++ q[7] ++ q[6] ++ q[5] ++ q[4] ++ q[3] ++ q[2] ++ q[1] ++ q[0]

/-- Eight offsets, offset i in bits [4i+2:4i], bits 4i+3 and [63:32] zero (R81). -/
def packOff8 (o : Vector Offset 8) : BitVec 64 :=
  0#32 ++ 0#1 ++ o[7] ++ 0#1 ++ o[6] ++ 0#1 ++ o[5] ++ 0#1 ++ o[4]
    ++ 0#1 ++ o[3] ++ 0#1 ++ o[2] ++ 0#1 ++ o[1] ++ 0#1 ++ o[0]

/-- The payload of a command, reserved bits zero (R81, R83). -/
def encodePayload : Instr → Payload
  | .cfgShiftPins data sclk latch => 0#40 ++ latch ++ sclk ++ data
  | .cfgHardPins pins => packBytes8 pins
  | .cfgHardRc rc => packNib8 rc
  | .cfgShiftRc rc => packNib8 rc
  | .cfgShiftOff off => packOff8 off
  | .cfgCounts hn sn => 0#56 ++ sn ++ hn
  | .construct rows => packBytes8 rows
  | .flip => 0
  | .setPixels rows => packBytes8 rows
  | .refresh => 0
  | .refreshWait us => 0#32 ++ us
  | .shutdown => 0

/-- The word of a command (R80 to R83). -/
def encode (i : Instr) : CmdWord := mkWord i.op.opcode (encodePayload i)

/-- The match word of a row of opcode_table.json: OPC << 64 (R82). -/
def Op.matchWord (o : Op) : CmdWord := mkWord o.opcode 0

/-- The mask of a row of opcode_table.json: the opcode bits and the format's reserved bits (R82). -/
def Op.maskWord (o : Op) : CmdWord := mkWord 0xFF o.format.reserved

/-- The word whose bits, numbered as the opcode table numbers them, are the low `nbits` bits of `w`, every bit above
them 0. A command is one word of one length (R80), so no layout of words is involved. -/
def wordOfTable (nbits w : Nat) : CmdWord := BitVec.ofNat 72 (w % 2 ^ nbits)

/-- What the decoder reads from an instruction whose bits are `w` (the host's question about the opcode table). -/
def decodeTableWord (nbits w : Nat) : Option Instr :=
  match decode (wordOfTable nbits w) with
  | .ok i => some i
  | .error _ => none

end Sys2Proof
end

