-- ==== Sys2Proof/Machine/Operands.lean ====
section
/-!
DEFINITION. The address and bit forms operands and events use: the flat pin space and its two groups (20_memory.md R62),
single bits of bytes and patterns (00_scope.md R10), and the 44-bit event words (30_encoding.md R95).
-/
namespace Sys2Proof.Machine

/-- group(p) of R62: LO below the threshold 8, else HI. -/
def groupOf (p : PinNum) : Group := if p.toNat < Config.groupThreshold then .lo else .hi

/-- bit(p) of R62: p mod 8. -/
def bitOf (p : PinNum) : Nat := p.toNat % 8

/-- The word with only bit i set; zero when i is outside the word. -/
def oneHot (n i : Nat) : BitVec n := 1#n <<< i

/-- v with bit i set to 1. -/
def setBit {n : Nat} (v : BitVec n) (i : Nat) : BitVec n := v ||| oneHot n i

/-- v with bit i set to 0. -/
def clearBit {n : Nat} (v : BitVec n) (i : Nat) : BitVec n := v &&& ~~~ oneHot n i

/-- v with bit i set to b. -/
def writeBit {n : Nat} (v : BitVec n) (i : Nat) (b : Bool) : BitVec n := if b then setBit v i else clearBit v i

/-- v with bit i exclusive-ored with b: v ^ (b << i). -/
def toggleBit {n : Nat} (v : BitVec n) (i : Nat) (b : Bool) : BitVec n := if b then v ^^^ oneHot n i else v

/-- g of a GROUP event word: 0 = LO, 1 = HI (R95). -/
def Group.code : Group → Bool
  | .lo => false
  | .hi => true

/-- KIND of an event (R95). -/
def Event.kind : Event → BitVec 4
  | .dirOut _ => 1
  | .pin _ _ => 2
  | .group _ _ => 3
  | .delay _ => 4
  | .diag _ => 5

/-- A of an event (R95). -/
def Event.fieldA : Event → BitVec 8
  | .dirOut p => p
  | .pin p _ => p
  | .group g _ => 0#7 ++ BitVec.ofBool g.code
  | .delay _ => 0
  | .diag _ => 0

/-- B of an event (R95). -/
def Event.fieldB : Event → BitVec 32
  | .dirOut _ => 0
  | .pin _ v => 0#31 ++ BitVec.ofBool v
  | .group _ b => 0#24 ++ b
  | .delay us => us
  | .diag c => 0#24 ++ c

/-- The 44-bit word of an event: KIND [43:40], A [39:32], B [31:0] (R95). -/
def Event.word (e : Event) : EventWord := e.kind ++ e.fieldA ++ e.fieldB

/-- The event of a 44-bit word, none for a word no event has: another KIND or an unused bit set (R95). -/
def eventOfWord (w : EventWord) : Option Event :=
  let a : BitVec 8 := w.extractLsb' 32 8
  let b : BitVec 32 := w.extractLsb' 0 32
  let e : Option Event :=
    match (w.extractLsb' 40 4).toNat with
    | 1 => some (.dirOut a)
    | 2 => some (.pin a (b.getLsbD 0))
    | 3 => some (.group (if a.getLsbD 0 then .hi else .lo) (b.extractLsb' 0 8))
    | 4 => some (.delay b)
    | 5 => some (.diag (b.extractLsb' 0 8))
    | _ => none
  e.filter fun x => x.word == w

/-- DIAG code 1: FLIP_MISMATCH (R95, 60_exceptions.md R271). -/
def diagFlipMismatch : Byte := 1

end Sys2Proof.Machine
end

