-- ==== Sys2Proof/Machine/Ops.lean ====
section
/-!
DEFINITION. The primitives every rule uses (00_scope.md R13): Emit, SetStatus, Reject, Fault; the phase acceptance table
(40_lifecycle.md R110); BUSY (10_state.md R42); and the reset action (70_reset_and_hazards.md R290).
-/
namespace Sys2Proof.Machine

/-- What a step of this machine answers. -/
abbrev Result := Host.Outcome State Fault Refusal

/-- The core registers of a state changed by f, nothing else. -/
def State.mapRegs (f : Regs → Regs) (s : State) : State := { s with regs := f s.regs }

/-- SetStatus(B) (R13). -/
def State.setStatus (c : Cause) (s : State) : State := s.mapRegs (Regs.setStatus c)

/-- Emit, for a sequence of events in order (R13): they are presented on the event channel after those already
presented, one at a time (20_memory.md R63). -/
def State.emit (es : List Event) (s : State) : State := { s with pending := s.pending ++ es }

/-- BUSY (R42): a command is executing, its last event not yet accepted. -/
def State.busy (s : State) : Bool := !s.pending.isEmpty

/-- Reject(B) (R13): the sticky bit, no other state change and no event. -/
def reject (c : Cause) (s : State) : Result := .next (s.setStatus c)

/-- The registers after Fault(B): the sticky bit and PHASE (60_exceptions.md R256). -/
def Regs.takeFault (c : Cause) (r : Regs) : Regs := { r.setStatus c with phase := .fault }

/-- Fault(B) (R13, R256): the one exception entry of the block. No event, nothing saved. -/
def takeFault (c : Cause) (s : State) : Result := .next (s.mapRegs (Regs.takeFault c))

/-- The first action of every command accepted in READY other than CONSTRUCT (10_state.md R23). -/
def Regs.clearFresh (r : Regs) : Regs := { r with fresh := false }

/-- The phase acceptance table R110: PhaseAccepts(opc, PHASE, SP_WRITTEN, HP_WRITTEN) of 60_exceptions.md R254. -/
def phaseAccepts (o : Op) (phase : Phase) (spWritten hpWritten : Bool) : Bool :=
  match phase with
  | .unconfigured =>
    match o with
    | .cfgShiftPins => true
    | .cfgHardPins => true
    | .cfgHardRc => true
    | .cfgShiftRc => true
    | .cfgShiftOff => true
    | .cfgCounts => true
    | .construct => spWritten && hpWritten
    | .flip => false
    | .setPixels => false
    | .refresh => false
    | .refreshWait => false
    | .shutdown => false
  | .ready =>
    match o with
    | .cfgShiftPins => false
    | .cfgHardPins => false
    | .cfgHardRc => false
    | .cfgShiftRc => false
    | .cfgShiftOff => false
    | .cfgCounts => false
    | .construct => false
    | .flip => true
    | .setPixels => true
    | .refresh => true
    | .refreshWait => true
    | .shutdown => true
  | .dead => false
  | .fault => false

/-- The command is accepted in this state's phase (R110). -/
def State.accepts (s : State) (o : Op) : Bool :=
  phaseAccepts o s.regs.phase s.regs.spWritten s.regs.hpWritten

/-- The phase check of Accept (R254): the command's own pseudocode if its phase accepts it, else Reject(ERR_STATE)
(60_exceptions.md R251). -/
def whenAccepted (o : Op) (s : State) (body : State → Result) : Result :=
  if s.accepts o then body s else reject .errState s

/-- The reset action (R290): every core register at its reset value, BUSY = 0. The events not yet accepted are never
emitted; the trace and the environment keep what was done. -/
def State.applyReset (s : State) : State := { s with regs := Regs.reset, pending := [] }

end Sys2Proof.Machine
end

