-- ==== Sys2Proof/Machine/Compiler.lean ====
section
/-!
DEFINITION. The Output Compiler, Compile (43_output_compiler.md R180 to R188).
-/
namespace Sys2Proof.Machine

/-- Bit v of one position goes to the byte and bit its route names, by exclusive-or (R183, R184). -/
def Slot.addRouted (acc : Slot) (rt : Route) (v : Bool) : Slot :=
  match rt with
  | .unresolved => acc
  | .shifted o => { acc with sh := toggleBit acc.sh o.toNat v }
  | .direct pin =>
    match groupOf pin with
    | .lo => { acc with lo := toggleBit acc.lo (bitOf pin) v }
    | .hi => { acc with hi := toggleBit acc.hi (bitOf pin) v }

/-- One slot from its pattern: the sixteen positions in order into zero-initialised bytes (R180). -/
def compileSlot (route : Vector Route 16) (pat : RowColBits) : Slot :=
  (List.finRange 16).foldl (fun acc p => acc.addRouted route[p] (pat.getLsbD p.val)) Slot.zero

/-- The pattern of scan slot s: PATTERN[s/2] when s is even, BLANK when odd (R182). -/
def scanPattern (pattern : Vector RowColBits 8) (s : Fin 16) : RowColBits :=
  if s.val % 2 = 0 then pattern[s.val / 2] else Config.blank

/-- Every route is resolved (R187). -/
def allResolved (route : Vector Route 16) : Bool :=
  (List.finRange 16).all fun p => decide (route[p] ≠ .unresolved)

/-- Compile(PATTERN, ROUTE): the frame and FRAME_VALID; all bytes 0 and FRAME_VALID = 0 when a route is UNRESOLVED
(R180, R187). -/
def compile (pattern : Vector RowColBits 8) (route : Vector Route 16) : Vector Slot 16 × Bool :=
  if allResolved route then (Vector.ofFn fun s => compileSlot route (scanPattern pattern s), true)
  else (Vector.replicate 16 Slot.zero, false)

/-- (FRAME, FRAME_VALID) <- Compile(PATTERN, ROUTE), together (R188). -/
def Regs.recompile (r : Regs) : Regs :=
  { r with frame := (compile r.pattern r.route).1, frameValid := (compile r.pattern r.route).2 }

end Sys2Proof.Machine
end

