-- ==== Sys2Proof/Machine/Router.lean ====
section
/-!
DEFINITION. The Pin Router, BuildRoutes (41_pin_router.md R140 to R146).
-/
namespace Sys2Proof.Machine

/-- H of R140: the hardwired entries below HARD_N that claim position p, in increasing order. -/
def hardClaims (w : Wiring) (p : Pos) : List (Fin 8) :=
  (List.finRange 8).filter fun i => decide (i.val < w.hardN.toNat) && decide (w.hardRc[i].toNat = p.val)

/-- S of R140: the shift entries below SHIFT_N that claim position p, in increasing order. -/
def shiftClaims (w : Wiring) (p : Pos) : List (Fin 8) :=
  (List.finRange 8).filter fun j => decide (j.val < w.shiftN.toNat) && decide (w.shiftRc[j].toNat = p.val)

/-- The route of one position: hardwired mapping first (R141), then shift mapping (R142), else UNRESOLVED (R143); the
lowest index wins (R144). -/
def routeOf (w : Wiring) (p : Pos) : Route :=
  match hardClaims w p with
  | i :: _ => .direct w.hardPins[i]
  | [] =>
    match shiftClaims w p with
    | j :: _ => .shifted w.shiftOff[j]
    | [] => .unresolved

/-- The sixteen routes (R140). -/
def buildRoutes (w : Wiring) : Vector Route 16 := Vector.ofFn (routeOf w)

/-- dup of R140: some position is claimed by two or more entries of both arrays together (R145). -/
def dupClaim (w : Wiring) : Bool :=
  (List.finRange 16).any fun p => decide (2 ≤ (hardClaims w p).length + (shiftClaims w p).length)

/-- unc of R140: some position is claimed by no entry (R146). -/
def uncovered (w : Wiring) : Bool :=
  (List.finRange 16).any fun p => (hardClaims w p).isEmpty && (shiftClaims w p).isEmpty

/-- BuildRoutes(): ROUTE and the two warnings (R140). -/
def Regs.rebuildRoutes (r : Regs) : Regs :=
  Regs.setStatusIf (uncovered r.wiring) .warnUncovered
    (Regs.setStatusIf (dupClaim r.wiring) .warnDupClaim { r with route := buildRoutes r.wiring })

end Sys2Proof.Machine
end

