-- ==== Sys2Proof/Machine/Flipper.lean ====
section
/-!
DEFINITION. The Configuration Flipper and its command FLIP (45_flipper.md R230 to R235).
-/
namespace Sys2Proof.Machine

/-- The swap of R233 and the reversal of R234 over entries 0..N-1, N = HARD_N; the other entries, HARD_PINS and the counts
stay. An index N-1-i outside the array (only for a count above 8, which no run reaches) leaves its entry as it is. -/
def Wiring.flipped (w : Wiring) : Wiring :=
  { w with
    hardRc := Vector.ofFn fun i => if i.val < w.hardN.toNat then w.shiftRc[i] else w.hardRc[i]
    shiftRc := Vector.ofFn fun i => if i.val < w.hardN.toNat then w.hardRc[i] else w.shiftRc[i]
    shiftOff := Vector.ofFn fun i =>
      if h : i.val < w.hardN.toNat ∧ w.hardN.toNat - 1 - i.val < 8 then w.shiftOff[w.hardN.toNat - 1 - i.val]
      else w.shiftOff[i] }

/-- The mutation of R230: swap and reverse, FLIPPED toggled, ROUTE and FRAME rebuilt (R235). -/
def Regs.flip (r : Regs) : Regs :=
  Regs.recompile (Regs.rebuildRoutes { r with wiring := r.wiring.flipped, flipped := !r.flipped })

/-- FLIP (R230): performed late with a warning (R231); no mutation and DIAG(1) when the counts differ (R232). -/
def execFlip (s : State) : Result :=
  whenAccepted .flip s fun s =>
    let late := !s.regs.fresh
    let s := s.mapRegs fun r => Regs.setStatusIf late .warnLateFlip r.clearFresh
    if s.regs.wiring.hardN = s.regs.wiring.shiftN then .next (s.mapRegs Regs.flip)
    else .next ((s.setStatus .errFlipMismatch).emit [.diag diagFlipMismatch])

end Sys2Proof.Machine
end

