-- ==== Sys2Proof/Machine/Pattern.lean ====
section
/-!
DEFINITION. The Pattern Generator, Generate (42_pattern_generator.md R160 to R165).
-/
namespace Sys2Proof.Machine

/-- The pattern of source row r with pixel byte `row`: from nothing lit, each set pixel selects row line R_r (R163) and
drives its column (R164). -/
def rowPattern (r : Nat) (row : Byte) : RowColBits :=
  (List.range 8).foldl
    (fun pat c => if row.getLsbD c then setBit (clearBit pat (8 + r)) c else pat) Config.blank

/-- Generate(PIXELS): PATTERN[k] comes from source row 7 - k (R161). -/
def generate (pixels : Vector Byte 8) : Vector RowColBits 8 :=
  Vector.ofFn fun k => rowPattern (7 - k.val) pixels[7 - k.val]

end Sys2Proof.Machine
end

