-- ==== Sys2Proof/Machine/Serializer.lean ====
section
/-!
DEFINITION. The Serializer (44_serializer.md R200 to R205) and the refresh commands REFRESH (R206) and REFRESH_WAIT (R207).
-/
namespace Sys2Proof.Machine

/-- One bit of the shift byte: the data line driven to it, then one clock pulse (R202). -/
def emitBit (p : ShiftPins) (v : Bool) : List Event :=
  [.pin p.data v, .pin p.sclk true, .pin p.sclk false]

/-- EmitSlot: eight bits, least significant first (R201), one latch pulse (R203), the two groups, LO first (R204). -/
def emitSlot (p : ShiftPins) (sl : Slot) : List Event :=
  ((List.range 8).flatMap fun b => emitBit p (sl.sh.getLsbD b)) ++
    [.pin p.latch true, .pin p.latch false, .group .lo sl.lo, .group .hi sl.hi]

/-- The events of one full refresh: the sixteen slots in order (R205). -/
def renderEvents (r : Regs) : List Event :=
  (List.finRange 16).flatMap fun s => emitSlot r.shiftPins r.frame[s]

/-- RenderFrame() followed by the rest of its command: Fault(FAULT_UNRESOLVED) without any event when FRAME_VALID = 0,
else the 448 events (R205). -/
def renderFrame (s : State) (rest : State → Result) : Result :=
  if s.regs.frameValid then rest (s.emit (renderEvents s.regs)) else takeFault .faultUnresolved s

/-- REFRESH (R206). -/
def execRefresh (s : State) : Result :=
  whenAccepted .refresh s fun s => renderFrame (s.mapRegs Regs.clearFresh) .next

/-- REFRESH_WAIT us (R207): one DELAY event after the refresh. -/
def execRefreshWait (us : BitVec 32) (s : State) : Result :=
  whenAccepted .refreshWait s fun s =>
    renderFrame (s.mapRegs Regs.clearFresh) fun s => .next (s.emit [.delay us])

end Sys2Proof.Machine
end

