-- ==== Sys2Proof/Machine/Lifecycle.lean ====
section
/-!
DEFINITION. The configuration and lifecycle commands (40_lifecycle.md R111 to R121).
-/
namespace Sys2Proof.Machine

/-- The WireAssignment changed by f, nothing else. -/
def Regs.mapWiring (f : Wiring → Wiring) (r : Regs) : Regs := { r with wiring := f r.wiring }

/-- CFG_SHIFT_PINS (R111). -/
def execCfgShiftPins (data sclk latch : PinNum) (s : State) : Result :=
  whenAccepted .cfgShiftPins s fun s =>
    .next (s.mapRegs fun r => { r with shiftPins := { data := data, sclk := sclk, latch := latch }, spWritten := true })

/-- CFG_HARD_PINS (R112): all eight entries, whatever HARD_N is. -/
def execCfgHardPins (pins : Vector PinNum 8) (s : State) : Result :=
  whenAccepted .cfgHardPins s fun s =>
    .next (s.mapRegs fun r => { r.mapWiring (fun w => { w with hardPins := pins }) with hpWritten := true })

/-- CFG_HARD_RC (R113). -/
def execCfgHardRc (rc : Vector PosField 8) (s : State) : Result :=
  whenAccepted .cfgHardRc s fun s => .next (s.mapRegs (Regs.mapWiring fun w => { w with hardRc := rc }))

/-- CFG_SHIFT_RC (R114). -/
def execCfgShiftRc (rc : Vector PosField 8) (s : State) : Result :=
  whenAccepted .cfgShiftRc s fun s => .next (s.mapRegs (Regs.mapWiring fun w => { w with shiftRc := rc }))

/-- CFG_SHIFT_OFF (R115). -/
def execCfgShiftOff (off : Vector Offset 8) (s : State) : Result :=
  whenAccepted .cfgShiftOff s fun s => .next (s.mapRegs (Regs.mapWiring fun w => { w with shiftOff := off }))

/-- A count CFG_COUNTS accepts: at most MAX_N = 8 (R116). -/
def countLegal (n : Count) : Bool := decide (n.toNat ≤ Config.maxN)

/-- CFG_COUNTS (R116): the value check is the last acceptance check (60_exceptions.md R254), after the phase. -/
def execCfgCounts (hn sn : Count) (s : State) : Result :=
  whenAccepted .cfgCounts s fun s =>
    if countLegal hn && countLegal sn then
      .next (s.mapRegs (Regs.mapWiring fun w => { w with hardN := hn, shiftN := sn }))
    else reject .errValue s

/-- SetPixels (R119): the bitmap replaced wholesale, PATTERN and the frame regenerated. -/
def Regs.setPixels (rows : Vector Byte 8) (r : Regs) : Regs :=
  Regs.recompile { r with pixels := rows, pattern := generate rows }

/-- The DIR_OUT events of CONSTRUCT, in order: data, shift clock, latch clock, HARD_PINS[0..HARD_N-1] (R118). -/
def constructEvents (r : Regs) : List Event :=
  [.dirOut r.shiftPins.data, .dirOut r.shiftPins.sclk, .dirOut r.shiftPins.latch] ++
    (r.wiring.hardPins.toList.take r.wiring.hardN.toNat).map .dirOut

/-- The registers after CONSTRUCT's pseudocode (R117). -/
def Regs.construct (rows : Vector Byte 8) (r : Regs) : Regs :=
  { Regs.setPixels rows r.rebuildRoutes with flipped := false, fresh := true, phase := .ready }

/-- CONSTRUCT (R117). -/
def execConstruct (rows : Vector Byte 8) (s : State) : Result :=
  whenAccepted .construct s fun s => .next ((s.emit (constructEvents s.regs)).mapRegs (Regs.construct rows))

/-- SET_PIXELS (R120). -/
def execSetPixels (rows : Vector Byte 8) (s : State) : Result :=
  whenAccepted .setPixels s fun s => .next (s.mapRegs fun r => Regs.setPixels rows r.clearFresh)

/-- The all-off bitmap of SHUTDOWN (R121). -/
def allOff : Vector Byte 8 := Vector.replicate 8 0

/-- SHUTDOWN (R121): the fault check comes before any change but FRESH; then the bitmap is cleared and one frame is
rendered. -/
def execShutdown (s : State) : Result :=
  whenAccepted .shutdown s fun s =>
    let s := s.mapRegs Regs.clearFresh
    if s.regs.frameValid then
      renderFrame (s.mapRegs (Regs.setPixels allOff)) fun s => .next (s.mapRegs fun r => { r with phase := .dead })
    else takeFault .faultUnresolved s

end Sys2Proof.Machine
end

