-- ==== Sys2Proof/Machine/Dispatch.lean ====
section
/-!
DEFINITION. The meaning of each command (30_encoding.md R82): one arm per constructor, one call per arm.
-/
namespace Sys2Proof.Machine

def exec (i : Instr) (s : State) : Host.Outcome State Fault Refusal :=
  match i with
  | .cfgShiftPins data sclk latch => Sys2Proof.Machine.execCfgShiftPins data sclk latch s
  | .cfgHardPins pins => Sys2Proof.Machine.execCfgHardPins pins s
  | .cfgHardRc rc => Sys2Proof.Machine.execCfgHardRc rc s
  | .cfgShiftRc rc => Sys2Proof.Machine.execCfgShiftRc rc s
  | .cfgShiftOff off => Sys2Proof.Machine.execCfgShiftOff off s
  | .cfgCounts hn sn => Sys2Proof.Machine.execCfgCounts hn sn s
  | .construct rows => Sys2Proof.Machine.execConstruct rows s
  | .flip => Sys2Proof.Machine.execFlip s
  | .setPixels rows => Sys2Proof.Machine.execSetPixels rows s
  | .refresh => Sys2Proof.Machine.execRefresh s
  | .refreshWait us => Sys2Proof.Machine.execRefreshWait us s
  | .shutdown => Sys2Proof.Machine.execShutdown s

end Sys2Proof.Machine
end

