-- ==== Sys2Proof/Machine/Environment.lean ====
section
/-!
DEFINITION. The environment's reference models: the GPIO groups (60_exceptions.md R272), the external shift register
(R273), what a logical line and an LED show (R274), and the acceptance of a presented event (20_memory.md R63). No core
rule reads any of it.
-/
namespace Sys2Proof.Machine

/-- PORT of a group (R272). -/
def Env.port (e : Env) : Group → Byte
  | .lo => e.portLo
  | .hi => e.portHi

/-- DDR of a group (R272). -/
def Env.ddr (e : Env) : Group → Byte
  | .lo => e.ddrLo
  | .hi => e.ddrHi

/-- PORT of a group written. -/
def Env.setPort (e : Env) (g : Group) (b : Byte) : Env :=
  match g with
  | .lo => { e with portLo := b }
  | .hi => { e with portHi := b }

/-- DDR of a group written. -/
def Env.setDdr (e : Env) (g : Group) (b : Byte) : Env :=
  match g with
  | .lo => { e with ddrLo := b }
  | .hi => { e with ddrHi := b }

/-- The GPIO groups after one event (R272). -/
def Env.gpio (e : Env) : Event → Env
  | .dirOut p => e.setDdr (groupOf p) (setBit (e.ddr (groupOf p)) (bitOf p))
  | .pin p v => e.setPort (groupOf p) (writeBit (e.port (groupOf p)) (bitOf p) v)
  | .group g b => e.setPort g b
  | .delay _ => e
  | .diag _ => e

/-- The level of pin p: its PORT bit when its DDR bit is 1, else not driven (R272). -/
def Env.level (e : Env) (p : PinNum) : Option Bool :=
  if (e.ddr (groupOf p)).getLsbD (bitOf p) then some ((e.port (groupOf p)).getLsbD (bitOf p)) else none

/-- The level went from 0 to 1 (R273). DEDUCED (log 9): a pin that was not driven was at neither level. -/
def rises (before after : Option Bool) : Bool := before == some false && after == some true

/-- The clocked-in data bit is not fixed: the event changed the data level too (U10, log 8), or the data pin is not driven
(log 10). -/
def dataOpen (before after : Option Bool) : Bool := before != after || after.isNone

/-- SR_BUF <- {DATA, SR_BUF[7:1]}: the new bit enters at bit 7 (R273). -/
def shiftIn (buf : Byte) (v : Bool) : Byte := BitVec.ofBool v ++ buf.extractLsb' 1 7

/-- The shift register's lines in one event: levels before and after (R273). -/
structure Edges where
  clock : Bool
  latch : Bool
  openBit : Bool
  dataBit : Bool
  deriving DecidableEq, Repr

/-- What one GPIO change does on the three shift-control lines (R273), the pins SHIFT_PINS names now (log 23). -/
def edgesOf (p : ShiftPins) (before after : Env) : Edges where
  clock := rises (before.level p.sclk) (after.level p.sclk)
  latch := rises (before.level p.latch) (after.level p.latch)
  openBit := dataOpen (before.level p.data) (after.level p.data)
  dataBit := (after.level p.data).getD false

/-- The shift register after one event: the clock line first, then the latch line, in the order R273 writes them (log 11).
`n` is the count of free bits taken so far. -/
def Env.shiftRegister (e : Env) (x : Edges) (n : Nat) : Env :=
  let e := if x.clock then { e with srBuf := shiftIn e.srBuf (if x.openBit then Config.clockedBit n else x.dataBit) } else e
  if x.latch then { e with srOut := e.srBuf } else e

/-- The count of free bits after one event. -/
def drawsAfter (x : Edges) (n : Nat) : Nat := if x.clock && x.openBit then n + 1 else n

/-- The environment and the free-bit count after the environment takes one event. -/
def takeEvent (p : ShiftPins) (en : Env × Nat) (ev : Event) : Env × Nat :=
  let after := en.1.gpio ev
  let x := edgesOf p en.1 after
  (after.shiftRegister x en.2, drawsAfter x en.2)

/-- The environment accepts the presented event, if there is one: it joins the trace and takes effect, and the next one is
presented (R63). -/
def State.acceptEvent (s : State) : State :=
  match s.pending with
  | [] => s
  | ev :: rest =>
    { s with
      pending := rest
      trace := s.trace ++ [ev]
      env := (takeEvent s.regs.shiftPins (s.env, s.draws) ev).1
      draws := (takeEvent s.regs.shiftPins (s.env, s.draws) ev).2 }

/-- The environment after a sequence of events. -/
def takeEvents (p : ShiftPins) (en : Env × Nat) (evs : List Event) : Env × Nat := evs.foldl (takeEvent p) en

/-- The state once every presented event is accepted (the host duty of 70_reset_and_hazards.md R304 (d)). -/
def State.drain (s : State) : State :=
  { s with
    pending := []
    trace := s.trace ++ s.pending
    env := (takeEvents s.regs.shiftPins (s.env, s.draws) s.pending).1
    draws := (takeEvents s.regs.shiftPins (s.env, s.draws) s.pending).2 }

/-- Parallel output q of the shift register shows SR_OUT[SR_ORDER[q]] (R273). -/
def Env.parallelOut (e : Env) (q : Fin 8) : Bool := e.srOut.getLsbD (Config.srOrder q).val

/-- The parallel output that carries a bit offset (R273, R274). -/
def outputCarrying (o : Offset) : Fin 8 := Config.srOrder.symm ⟨o.toNat, o.isLt⟩

/-- What a logical line shows: a DIRECT line its pin's level, a SHIFTED line the output carrying its offset (R274). -/
def Env.lineLevel (e : Env) (rt : Route) : Option Bool :=
  match rt with
  | .unresolved => none
  | .direct pin => e.level pin
  | .shifted o => some (e.parallelOut (outputCarrying o))

/-- The LED of row r and column c is lit: its row line is at 0 and its column line at 1 (R274). -/
def Env.ledLit (e : Env) (route : Vector Route 16) (r c : Fin 8) : Bool :=
  e.lineLevel route[8 + r.val] == some false && e.lineLevel route[c.val] == some true

end Sys2Proof.Machine
end

