-- ==== Sys2Proof/Machine/Readback.lean ====
section
/-!
DEFINITION. The readback port and its register map (20_memory.md R66 to R68). A read is a function of the address and
the core registers only.
-/
namespace Sys2Proof.Machine

/-- The value of PHASE (R22). -/
def Phase.code : Phase → BitVec 2
  | .unconfigured => 0
  | .ready => 1
  | .dead => 2
  | .fault => 3

/-- CTRL: PHASE, FRESH, FLIPPED, FRAME_VALID, SP_WRITTEN, HP_WRITTEN from bit 0 up (R67). -/
def readCtrl (r : Regs) : ReadWord :=
  0#57 ++ BitVec.ofBool r.hpWritten ++ BitVec.ofBool r.spWritten ++ BitVec.ofBool r.frameValid
    ++ BitVec.ofBool r.flipped ++ BitVec.ofBool r.fresh ++ r.phase.code

/-- A ROUTE entry: [7:0] VALUE, [9:8] KIND (R67). -/
def readRoute : Route → ReadWord
  | .unresolved => 0
  | .direct pin => 0#54 ++ 1#2 ++ pin
  | .shifted off => 0#54 ++ 2#2 ++ 0#5 ++ off

/-- A FRAME slot: LO, HI, SH from bit 0 up, then FRAME_VALID in bit 24 (R67). -/
def readSlot (r : Regs) (sl : Slot) : ReadWord :=
  0#39 ++ BitVec.ofBool r.frameValid ++ sl.sh ++ sl.hi ++ sl.lo

/-- ID: 0x4C38 in [15:0], the command set version 1 in [23:16] (R67). -/
def idWord : ReadWord := 0x14C38

/-- RD_DATA for RD_ADDR (R67); an address not in the map reads 0 (R68). -/
def readReg (r : Regs) (addr : BitVec 8) : ReadWord :=
  let a := addr.toNat
  if a = 0x00 then 0#56 ++ r.status
  else if a = 0x01 then readCtrl r
  else if a = 0x02 then 0#40 ++ r.shiftPins.latch ++ r.shiftPins.sclk ++ r.shiftPins.data
  else if a = 0x03 then packBytes8 r.wiring.hardPins
  else if a = 0x04 then packNib8 r.wiring.hardRc
  else if a = 0x05 then packNib8 r.wiring.shiftRc
  else if a = 0x06 then packOff8 r.wiring.shiftOff
  else if a = 0x07 then 0#56 ++ r.wiring.shiftN ++ r.wiring.hardN
  else if a = 0x08 then packBytes8 r.pixels
  else if h : 0x10 ≤ a ∧ a < 0x20 then readRoute r.route[a - 0x10]
  else if h : 0x20 ≤ a ∧ a < 0x28 then 0#48 ++ r.pattern[a - 0x20]
  else if h : 0x30 ≤ a ∧ a < 0x40 then readSlot r r.frame[a - 0x30]
  else if a = 0x40 then idWord
  else 0

/-- The host gets its answer (R66): no register changes, no event. The answer is kept in the host's list. -/
def answerRead (addr : BitVec 8) (s : State) : State :=
  { s with answers := s.answers ++ [(addr, readReg s.regs addr)] }

end Sys2Proof.Machine
end

