-- ==== Sys2Proof/Machine/Port.lean ====
section
/-!
DEFINITION. The ports: the acceptance of a command word (60_exceptions.md R254, 20_memory.md R61), the readback held while
BUSY (R66), the reset input (70_reset_and_hazards.md R290) and the event handshake (R63), one move at a time (logs 2, 3).
-/
namespace Sys2Proof.Machine

/-- A word the core has accepted from the port: Reject(ERR_ILLEGAL) when it is no command (R250), else the command. -/
def runWord (w : CmdWord) (s : State) : Result :=
  match decode w with
  | .error _ => reject .errIllegal s
  | .ok i => exec i s

/-- The next move. While the block is BUSY a command word is not accepted and a readback is not answered: the environment
accepts the presented event instead, and the move stays for later. With no move left an idle block waits (R291). -/
def takeMove (s : State) : Result :=
  match s.inputs with
  | [] => .next s.acceptEvent
  | .command w :: rest => if s.busy then .next s.acceptEvent else runWord w { s with inputs := rest }
  | .readback a :: rest => if s.busy then .next s.acceptEvent else .next (answerRead a { s with inputs := rest })
  | .reset :: rest => .next (State.applyReset { s with inputs := rest })
  | .accept :: rest => .next (State.acceptEvent { s with inputs := rest })
  | .stall :: rest => .next { s with inputs := rest }

/-- The state in which the host presents `w` to a block that is ready for it: the events still presented are accepted
first, since a BUSY block takes no word (R61). -/
def present (w : CmdWord) (s : State) : State := { s.drain with inputs := .command w :: s.inputs }

end Sys2Proof.Machine
end

