-- ==== Sys2Proof/Machine/Step.lean ====
section
/-!
DEFINITION. One step of the machine, and the placing of a command where the next step takes it.
-/
namespace Sys2Proof.Machine

/-- One step: the next move of the outside world (takeMove). -/
def step (s : State) : Host.Outcome State Fault Refusal := takeMove s

/-- `s` with the command whose table bits are `w` presented next on the command port (log 2). -/
def State.withFetchWord (s : State) (nbits w : Nat) : State := present (wordOfTable nbits w) s

end Sys2Proof.Machine
end

