-- ==== Sys2Proof/Safety.lean ====
section
/-!
DEFINITION. The terms claims are stated in: the invariants of 10_state.md R34, R39 and R43, well-formed and collision-free
wiring (41_pin_router.md R148, 60_exceptions.md R274), and the normal end of a run (70_reset_and_hazards.md R310).
-/
namespace Sys2Proof.Machine

/-- The counts are legal, 0..8 (R34: "the registers never hold" another). -/
abbrev countsLegal (w : Wiring) : Prop := w.hardN.toNat ≤ 8 ∧ w.shiftN.toNat ≤ 8

/-- (a) to (c) of R39: ROUTE, PATTERN, FRAME and FRAME_VALID are the functions of the configuration and PIXELS they cache. -/
abbrev cachesConsistent (r : Regs) : Prop :=
  r.route = buildRoutes r.wiring ∧ r.pattern = generate r.pixels ∧ (r.frame, r.frameValid) = compile r.pattern r.route

/-- The invariant every step keeps: legal counts (R34), the caches in READY and DEAD and the blank bitmap in DEAD (R39),
the written flags once constructed (R110), FAULT exactly with its STATUS bit (R255, R256), FRESH only in READY (R23), and
events presented only in READY or DEAD. This last clause is the model's choice: the registers, PHASE among them, are written at
a command's acceptance and its events are accepted after that (log 1, 20_memory.md R61). -/
structure Inv (s : State) : Prop where
  counts : countsLegal s.regs.wiring
  caches : s.regs.phase = .ready ∨ s.regs.phase = .dead → cachesConsistent s.regs
  blankWhenDead : s.regs.phase = .dead → s.regs.pixels = allOff
  written : s.regs.phase ≠ .unconfigured → s.regs.spWritten = true ∧ s.regs.hpWritten = true
  faultBit : s.regs.phase = .fault ↔ s.regs.statusBit .faultUnresolved = true
  freshReady : s.regs.fresh = true → s.regs.phase = .ready
  presented : s.pending ≠ [] → s.regs.phase = .ready ∨ s.regs.phase = .dead

/-- Well-formed wiring (R148): counts 8 and 8, and the sixteen positions claimed are a permutation of 0..15. -/
abbrev wellFormedWiring (w : Wiring) : Prop :=
  w.hardN = 8 ∧ w.shiftN = 8 ∧
    ((w.hardRc.toList ++ w.shiftRc.toList).map BitVec.toNat).Perm (List.range 16)

/-- The (group, bit) pair of a pin (20_memory.md R62). -/
def pinBit (p : PinNum) : Group × Nat := (groupOf p, bitOf p)

/-- Collision-free wiring (R274): well formed; the direct pins and the three shift-control pins on distinct (group, bit)
pairs; distinct offsets. -/
abbrev collisionFree (p : ShiftPins) (w : Wiring) : Prop :=
  wellFormedWiring w ∧
    (([p.data, p.sclk, p.latch] ++ w.hardPins.toList).map pinBit).Nodup ∧
    w.shiftOff.toList.Nodup

/-- The pin is an output. -/
def Env.drives (e : Env) (p : PinNum) : Bool := (e.level p).isSome

/-- The environment before a slot of collision-free wiring (R274): every configured pin an output, the shift clock and the
latch line low. -/
abbrev slotStart (p : ShiftPins) (w : Wiring) (e : Env) : Prop :=
  (∀ q ∈ [p.data, p.sclk, p.latch] ++ w.hardPins.toList, e.drives q = true) ∧
    e.level p.sclk = some false ∧ e.level p.latch = some false

/-- No event is presented and not accepted, and PHASE is UNCONFIGURED, READY or DEAD: a run that has no move left ends
normally (R310). -/
def endsNormally (s : State) : Bool := s.inputs.isEmpty && !s.busy && decide (s.regs.phase ≠ .fault)

end Sys2Proof.Machine
end

