-- ==== Sys2Proof/Machine/Assembler.lean ====
section
/-!
DEFINITION. The assembler of 30_encoding.md R87 and its pseudo-instructions R88: the text of a line, the operand checks, and
the commands a line stands for. What R87 leaves open about the text (blanks, letter case) is in log 20.
-/
namespace Sys2Proof

/-- The number of operands a line with this name has (R87, R88). -/
def operandCount : AsmName → Nat
  | .op o =>
    match o.format with
    | .none => 0
    | .pins3 => 3
    | .bytes8 => 8
    | .nib8 => 8
    | .off8 => 8
    | .cnt => 2
    | .delay => 1
  | .blank => 0
  | .showWait => 9
  | .refreshN => 1

/-- An operand where a number below `bound` may stand, and a position name only where positions are written (R87). -/
def operandInRange (bound : Nat) (positionsToo : Bool) : AsmOperand → Bool
  | .num n => decide (n < bound)
  | .position _ => positionsToo

/-- The assembler's range check of operand i (R87, R88; REFRESH_N wants n >= 1). -/
def rangeCheck (name : AsmName) (i : Nat) (x : AsmOperand) : Bool :=
  match name with
  | .op o =>
    match o.format with
    | .none => false
    | .pins3 => operandInRange 256 false x
    | .bytes8 => operandInRange 256 false x
    | .nib8 => operandInRange 16 true x
    | .off8 => operandInRange 8 false x
    | .cnt => operandInRange 16 false x
    | .delay => operandInRange (2 ^ 32) false x
  | .blank => false
  | .showWait => if i < 8 then operandInRange 256 false x else operandInRange (2 ^ 32) false x
  | .refreshN =>
    match x with
    | .num n => decide (1 ≤ n)
    | .position _ => false

/-- The line has the right number of operands. -/
def operandCountOk (l : AsmLine) : Bool := l.operands.length == operandCount l.name

/-- Every operand of the line passes its range check. -/
def rangesOk (l : AsmLine) : Bool := l.operands.zipIdx.all fun x => rangeCheck l.name x.2 x.1

/-- The number an operand stands for: Ck is k, Rk is 8 + k (R87). -/
def AsmOperand.value : AsmOperand → Nat
  | .num n => n
  | .position p => p.val

/-- Operand i of a line as a number. -/
def AsmLine.operand (l : AsmLine) (i : Nat) : Nat := ((l.operands[i]?).map AsmOperand.value).getD 0

/-- Operands i..i+7 of a line as the elements of an array, element 0 first (R87). -/
def octet (n : Nat) (f : Nat → Nat) : Vector (BitVec n) 8 := Vector.ofFn fun i => BitVec.ofNat n (f i.val)

/-- The command with the operands f 0, f 1, ... -/
def instrOfOperands (o : Op) (f : Nat → Nat) : Instr :=
  match o with
  | .cfgShiftPins => .cfgShiftPins (BitVec.ofNat 8 (f 0)) (BitVec.ofNat 8 (f 1)) (BitVec.ofNat 8 (f 2))
  | .cfgHardPins => .cfgHardPins (octet 8 f)
  | .cfgHardRc => .cfgHardRc (octet 4 f)
  | .cfgShiftRc => .cfgShiftRc (octet 4 f)
  | .cfgShiftOff => .cfgShiftOff (octet 3 f)
  | .cfgCounts => .cfgCounts (BitVec.ofNat 4 (f 0)) (BitVec.ofNat 4 (f 1))
  | .construct => .construct (octet 8 f)
  | .flip => .flip
  | .setPixels => .setPixels (octet 8 f)
  | .refresh => .refresh
  | .refreshWait => .refreshWait (BitVec.ofNat 32 (f 0))
  | .shutdown => .shutdown

/-- The commands of a checked line: itself, or its expansion (R88). -/
def expand (l : AsmLine) : List Instr :=
  match l.name with
  | .op o => [instrOfOperands o l.operand]
  | .blank => [.setPixels (Vector.replicate 8 0)]
  | .showWait => [.setPixels (octet 8 l.operand), .refreshWait (BitVec.ofNat 32 (l.operand 8))]
  | .refreshN => List.replicate (l.operand 0) .refresh

/-- Assembling one line: a wrong operand count or an operand out of range is an error (R87). -/
def assembleLine (l : AsmLine) : Except AsmError (List Instr) :=
  if !operandCountOk l then .error .operandCount
  else if !rangesOk l then .error .operandRange
  else .ok (expand l)

/-- The text of each name (R82, R88). -/
def AsmName.text : AsmName → List Char
  | .op .cfgShiftPins => "CFG_SHIFT_PINS".toList
  | .op .cfgHardPins => "CFG_HARD_PINS".toList
  | .op .cfgHardRc => "CFG_HARD_RC".toList
  | .op .cfgShiftRc => "CFG_SHIFT_RC".toList
  | .op .cfgShiftOff => "CFG_SHIFT_OFF".toList
  | .op .cfgCounts => "CFG_COUNTS".toList
  | .op .construct => "CONSTRUCT".toList
  | .op .flip => "FLIP".toList
  | .op .setPixels => "SET_PIXELS".toList
  | .op .refresh => "REFRESH".toList
  | .op .refreshWait => "REFRESH_WAIT".toList
  | .op .shutdown => "SHUTDOWN".toList
  | .blank => "BLANK".toList
  | .showWait => "SHOW".toList
  | .refreshN => "REFRESH_N".toList

/-- Every name a line may start with. -/
def AsmName.all : List AsmName := Op.all.map .op ++ [.blank, .showWait, .refreshN]

/-- The name with this text. -/
def nameOfText (cs : List Char) : Option AsmName := AsmName.all.find? fun n => n.text == cs

/-- A character that separates words (log 20). -/
def isBlankChar (c : Char) : Bool := c == ' ' || c == '\t' || c == '\r'

/-- A text without its leading and trailing blanks. -/
def trimBlanks (cs : List Char) : List Char := ((cs.dropWhile isBlankChar).reverse.dropWhile isBlankChar).reverse

/-- The value of a digit in a base up to 16 (R87). -/
def digitValue (base : Nat) (c : Char) : Option Nat :=
  let n := c.toNat
  let v :=
    if 48 ≤ n ∧ n ≤ 57 then n - 48
    else if 97 ≤ n ∧ n ≤ 102 then n - 87
    else if 65 ≤ n ∧ n ≤ 70 then n - 55
    else 16
  if v < base then some v else none

/-- A non-empty digit string read most significant digit first. -/
def readDigits (base : Nat) : List Char → Option Nat
  | [] => none
  | c :: cs =>
    cs.foldl (fun acc d => acc.bind fun a => (digitValue base d).map fun v => a * base + v) (digitValue base c)

/-- A number: decimal, 0x hexadecimal or 0b binary (R87). -/
def readNumber : List Char → Option Nat
  | '0' :: 'x' :: cs => readDigits 16 cs
  | '0' :: 'b' :: cs => readDigits 2 cs
  | cs => readDigits 10 cs

/-- A position name: C0..C7 are 0..7, R0..R7 are 8..15 (R87). -/
def readPosition : List Char → Option Pos
  | ['C', d] => (digitValue 8 d).map fun v => Fin.ofNat 16 v
  | ['R', d] => (digitValue 8 d).map fun v => Fin.ofNat 16 (8 + v)
  | _ => none

/-- One operand. -/
def readOperand (cs : List Char) : Except AsmError AsmOperand :=
  match readPosition (trimBlanks cs) with
  | some p => .ok (.position p)
  | none =>
    match readNumber (trimBlanks cs) with
    | some n => .ok (.num n)
    | none => .error .badOperand

/-- Every operand in order, or the first error. -/
def readOperands : List (List Char) → Except AsmError (List AsmOperand)
  | [] => .ok []
  | cs :: rest =>
    match readOperand cs with
    | .error e => .error e
    | .ok x =>
      match readOperands rest with
      | .error e => .error e
      | .ok xs => .ok (x :: xs)

/-- The pieces of a text between separators. -/
def splitAtChar (sep : Char) : List Char → List (List Char)
  | [] => [[]]
  | c :: cs =>
    if c == sep then [] :: splitAtChar sep cs
    else
      match splitAtChar sep cs with
      | [] => [[c]]
      | w :: ws => (c :: w) :: ws

/-- The text of a line: a comment starts at `;`, a line with nothing else is empty, the name comes first, then the operands
between commas (R87). -/
def readLine (cs : List Char) : Except AsmError (Option AsmLine) :=
  let t := trimBlanks (cs.takeWhile fun c => c != ';')
  if t.isEmpty then .ok none
  else
    match nameOfText (t.takeWhile fun c => !isBlankChar c) with
    | none => .error .unknownMnemonic
    | some name =>
      let rest := trimBlanks (t.dropWhile fun c => !isBlankChar c)
      if rest.isEmpty then .ok (some { name := name, operands := [] })
      else
        match readOperands (splitAtChar ',' rest) with
        | .error e => .error e
        | .ok xs => .ok (some { name := name, operands := xs })

/-- The commands of one line of text. -/
def assembleText (cs : List Char) : Except AsmError (List Instr) :=
  match readLine cs with
  | .error e => .error e
  | .ok none => .ok []
  | .ok (some l) => assembleLine l

/-- The commands of the lines of a program, or the first error (one command per line, R87). -/
def assembleLines : List (List Char) → Except AsmError (List Instr)
  | [] => .ok []
  | cs :: rest =>
    match assembleText cs with
    | .error e => .error e
    | .ok is =>
      match assembleLines rest with
      | .error e => .error e
      | .ok js => .ok (is ++ js)

/-- The command words of a program's text (R87, R80). -/
def assemble (text : List Char) : Except AsmError (List CmdWord) :=
  match assembleLines (splitAtChar '\n' text) with
  | .error e => .error e
  | .ok is => .ok (is.map encode)

end Sys2Proof
end

