-- ==== Sys2Proof/WellFormed.lean ====
section
/-!
DEFINITION. What is well formed before anything runs. The operands of an `Instr` have the exact widths of their fields
(R83), so every `Instr` is a command; the checks are on what comes from outside: a command word (R84, R85; "a well-formed
command (passing rule R250)", 60_exceptions.md R251) and an assembler line (R87).
-/
namespace Sys2Proof

/-- The opcode is one of the twelve (R82, R84). -/
def hasLegalOpcode (w : CmdWord) : Bool := (opOfOpcode (opcOf w)).isSome

/-- Every reserved payload bit of the opcode's format is 0 (R85). An illegal opcode has no format to check. -/
def reservedBitsClear (w : CmdWord) : Bool :=
  match opOfOpcode (opcOf w) with
  | none => false
  | some o => payloadOf w &&& o.format.reserved == 0

/-- A well-formed command word: it passes R250. -/
def wordWellFormed (w : CmdWord) : Bool := hasLegalOpcode w && reservedBitsClear w

/-- A well-formed assembler line: the right number of operands, each in range (R87). -/
def AsmLine.wellFormed (l : AsmLine) : Bool := operandCountOk l && rangesOk l

/-- A well-formed command: its word is well formed. -/
def Instr.wellFormed (i : Instr) : Bool := wordWellFormed (encode i)

end Sys2Proof
end

