-- ==== Sys2Proof/Certificates/Slice0/Obligations.lean ====
section
/-!
DEFINITION. The statements about the L8C model, each from a numbered rule of the spec. The helpers in namespace
Sys2Proof.Claims write the spec's own tables and lists out literally, so that a statement compares the model with the
spec's words and not with the model's own definition.
-/
namespace Sys2Proof.Claims

open Sys2Proof.Machine

/-- The "match" column of spec/opcode_table.json, copied. -/
def tableMatch : Op → CmdWord
  | .cfgShiftPins => 0x010000000000000000
  | .cfgHardPins => 0x020000000000000000
  | .cfgHardRc => 0x030000000000000000
  | .cfgShiftRc => 0x040000000000000000
  | .cfgShiftOff => 0x050000000000000000
  | .cfgCounts => 0x060000000000000000
  | .construct => 0x100000000000000000
  | .flip => 0x110000000000000000
  | .setPixels => 0x120000000000000000
  | .refresh => 0x200000000000000000
  | .refreshWait => 0x210000000000000000
  | .shutdown => 0x300000000000000000

/-- The "mask" column of spec/opcode_table.json, copied. -/
def tableMask : Op → CmdWord
  | .cfgShiftPins => 0xFFFFFFFFFFFF000000
  | .cfgHardPins => 0xFF0000000000000000
  | .cfgHardRc => 0xFFFFFFFFFF00000000
  | .cfgShiftRc => 0xFFFFFFFFFF00000000
  | .cfgShiftOff => 0xFFFFFFFFFF88888888
  | .cfgCounts => 0xFFFFFFFFFFFFFFFF00
  | .construct => 0xFF0000000000000000
  | .flip => 0xFFFFFFFFFFFFFFFFFF
  | .setPixels => 0xFF0000000000000000
  | .refresh => 0xFFFFFFFFFFFFFFFFFF
  | .refreshWait => 0xFFFFFFFFFF00000000
  | .shutdown => 0xFFFFFFFFFFFFFFFFFF

/-- The word lies in the command's row: (word & mask) == match (30_encoding.md R82). -/
abbrev inRow (w : CmdWord) (o : Op) : Prop := w &&& tableMask o = tableMatch o

/-- The six configuration commands. -/
def configOps : List Op := [.cfgShiftPins, .cfgHardPins, .cfgHardRc, .cfgShiftRc, .cfgShiftOff, .cfgCounts]

/-- The five commands of a constructed block. -/
def readyOps : List Op := [.flip, .setPixels, .refresh, .refreshWait, .shutdown]

/-- The "yes" entries of the table of 40_lifecycle.md R110. -/
abbrev acceptedIn (o : Op) (r : Regs) : Prop :=
  (o ∈ configOps ∧ r.phase = .unconfigured) ∨
    (o = .construct ∧ r.phase = .unconfigured ∧ r.spWritten = true ∧ r.hpWritten = true) ∨
    (o ∈ readyOps ∧ r.phase = .ready)

/-- The state with these STATUS bits set and nothing else changed. -/
def flagged (bits : BitVec 8) (s : State) : State := { s with regs := { s.regs with status := s.regs.status ||| bits } }

/-- STATUS bit 4, WARN_LATE_FLIP, when FRESH = 0. -/
def lateBit (fresh : Bool) : BitVec 8 := if fresh then 0 else 0x10

/-- The 28 events of one slot, written out from 44_serializer.md R200. -/
def slotEvents (p : ShiftPins) (sl : Slot) : List Event :=
  [.pin p.data (sl.sh.getLsbD 0), .pin p.sclk true, .pin p.sclk false,
   .pin p.data (sl.sh.getLsbD 1), .pin p.sclk true, .pin p.sclk false,
   .pin p.data (sl.sh.getLsbD 2), .pin p.sclk true, .pin p.sclk false,
   .pin p.data (sl.sh.getLsbD 3), .pin p.sclk true, .pin p.sclk false,
   .pin p.data (sl.sh.getLsbD 4), .pin p.sclk true, .pin p.sclk false,
   .pin p.data (sl.sh.getLsbD 5), .pin p.sclk true, .pin p.sclk false,
   .pin p.data (sl.sh.getLsbD 6), .pin p.sclk true, .pin p.sclk false,
   .pin p.data (sl.sh.getLsbD 7), .pin p.sclk true, .pin p.sclk false,
   .pin p.latch true, .pin p.latch false, .group .lo sl.lo, .group .hi sl.hi]

/-- The sixteen slots of a refresh in order (R205). -/
def frameEvents (p : ShiftPins) (frame : Vector Slot 16) : List Event :=
  (List.finRange 16).flatMap fun s => slotEvents p frame[s]

/-- The DIR_OUT events of CONSTRUCT (40_lifecycle.md R118). -/
def dirOutEvents (r : Regs) : List Event :=
  [.dirOut r.shiftPins.data, .dirOut r.shiftPins.sclk, .dirOut r.shiftPins.latch] ++
    ((List.finRange 8).filter fun i => decide (i.val < r.wiring.hardN.toNat)).map fun i => .dirOut r.wiring.hardPins[i]

/-- Entry i of the hardwired arrays claims position p: i is below HARD_N and HARD_RC[i] = p (41_pin_router.md R140). -/
abbrev hardClaim (w : Wiring) (p : Pos) (i : Fin 8) : Prop := i.val < w.hardN.toNat ∧ w.hardRc[i].toNat = p.val

/-- Entry j of the shift arrays claims position p (R140). -/
abbrev shiftClaim (w : Wiring) (p : Pos) (j : Fin 8) : Prop := j.val < w.shiftN.toNat ∧ w.shiftRc[j].toNat = p.val

/-- Two different entries claim position p, in one array or in both (R145). -/
abbrev claimedTwice (w : Wiring) (p : Pos) : Prop :=
  (∃ i j, i ≠ j ∧ hardClaim w p i ∧ hardClaim w p j) ∨ (∃ i j, i ≠ j ∧ shiftClaim w p i ∧ shiftClaim w p j) ∨
    (∃ i j, hardClaim w p i ∧ shiftClaim w p j)

/-- No entry claims position p (R143). -/
abbrev claimedByNone (w : Wiring) (p : Pos) : Prop := (∀ i, ¬ hardClaim w p i) ∧ ∀ j, ¬ shiftClaim w p j

/-- STATUS bit 5, WARN_DUP_CLAIM, when the wiring claims a position twice (R145). -/
def dupBit (w : Wiring) : BitVec 8 := if ∃ p, claimedTwice w p then 0x20 else 0

/-- STATUS bit 6, WARN_UNCOVERED, when the wiring leaves a position to no entry (R146). -/
def uncoveredBit (w : Wiring) : BitVec 8 := if ∃ p, claimedByNone w p then 0x40 else 0

/-- The exclusive-or of sixteen bits: 1 when an odd number of them is 1, 0 over none (43_output_compiler.md R189). -/
def xorOver (f : Pos → Bool) : Bool := (List.finRange 16).countP f % 2 == 1

/-- The pattern of slot s: PATTERN[s/2] in an even slot, BLANK in an odd one (R182). -/
def slotPattern (pattern : Vector RowColBits 8) (s : Fin 16) : RowColBits :=
  if s.val % 2 = 0 then pattern[s.val / 2] else 0xFF00

/-- The LED of row r and column c is lit by a slot with this pattern: the row bit 0, the column bit 1 (60_exceptions.md
R274). -/
def litBy (pat : RowColBits) (r c : Fin 8) : Bool := !pat.getLsbD (8 + r.val) && pat.getLsbD c.val

/-- Two pin numbers name the same bit of the same group (20_memory.md R62). -/
abbrev samePinBit (p q : PinNum) : Prop := (p.toNat < 8 ↔ q.toNat < 8) ∧ p.toNat % 8 = q.toNat % 8

/-- The PORT bit of a pin (60_exceptions.md R272). -/
def portBit (e : Env) (q : PinNum) : Bool := (if q.toNat < 8 then e.portLo else e.portHi).getLsbD (q.toNat % 8)

/-- The DDR bit of a pin (R272). -/
def ddrBit (e : Env) (q : PinNum) : Bool := (if q.toNat < 8 then e.ddrLo else e.ddrHi).getLsbD (q.toNat % 8)

/-- No field but those of the environment's own differs. -/
abbrev sameCore (s t : State) : Prop :=
  s.regs = t.regs ∧ s.pending = t.pending ∧ s.trace = t.trace ∧ s.inputs = t.inputs ∧ s.answers = t.answers

/-- An idle block rejects the word with ERR_ILLEGAL: that one STATUS bit and nothing else (60_exceptions.md R250). -/
abbrev rejectedIllegal (w : CmdWord) : Prop :=
  ∀ (s : State) (rest : List Input), s.pending = [] → s.inputs = .command w :: rest →
    step s = .next (flagged 0x01 { s with inputs := rest })

/-- The state after the environment took the presented event e and es stays presented: e joins the trace and has its effect
on the pins and the shift register (20_memory.md R63, 60_exceptions.md R272, R273). -/
def handedOver (e : Event) (es : List Event) (s : State) : State :=
  { s with
    pending := es
    trace := s.trace ++ [e]
    env := (takeEvent s.regs.shiftPins (s.env, s.draws) e).1
    draws := (takeEvent s.regs.shiftPins (s.env, s.draws) e).2 }

/-- The event shifts in the n-th free bit at bit 7; the other bits move down one place; the outputs stay (R273, U10). -/
abbrev shiftsInFreeBit (p : ShiftPins) (e : Env) (n : Nat) (ev : Event) : Prop :=
  (takeEvent p (e, n) ev).1.srBuf.getLsbD 7 = Config.clockedBit n ∧
    (∀ k : Nat, k < 7 → (takeEvent p (e, n) ev).1.srBuf.getLsbD k = e.srBuf.getLsbD (k + 1)) ∧
    (takeEvent p (e, n) ev).1.srOut = e.srOut ∧ (takeEvent p (e, n) ev).2 = n + 1

/-- The causes of the STATUS bits a command may set from state s to state t (60_exceptions.md R258); bit 0 belongs to words
that are no command. -/
abbrev causedBy (i : Instr) (s t : State) (k : Nat) : Prop :=
  (k = 1 ∧ ¬ acceptedIn i.op s.regs) ∨
    (k = 2 ∧ acceptedIn i.op s.regs ∧ ∃ hn sn, i = .cfgCounts hn sn ∧ (8 < hn.toNat ∨ 8 < sn.toNat)) ∨
    (k = 3 ∧ acceptedIn i.op s.regs ∧ i.op = .flip ∧ s.regs.wiring.hardN ≠ s.regs.wiring.shiftN) ∨
    (k = 4 ∧ acceptedIn i.op s.regs ∧ i.op = .flip ∧ s.regs.fresh = false) ∨
    (k = 5 ∧ acceptedIn i.op s.regs ∧ i.op ∈ [Op.construct, .flip] ∧ ∃ p, claimedTwice t.regs.wiring p) ∨
    (k = 6 ∧ acceptedIn i.op s.regs ∧ i.op ∈ [Op.construct, .flip] ∧ ∃ p, claimedByNone t.regs.wiring p) ∨
    (k = 7 ∧ acceptedIn i.op s.regs ∧ i.op ∈ [Op.refresh, .refreshWait, .shutdown] ∧ t.regs.frameValid = false ∧
      t.regs.phase = .fault)

/-- The example wiring W_EX of 95_test_vectors.md section 0. -/
def wexWiring : Wiring where
  hardPins := #v[2, 3, 4, 5, 6, 7, 8, 9]
  hardRc := #v[0, 1, 2, 3, 4, 5, 6, 7]
  shiftRc := #v[8, 9, 10, 11, 12, 13, 14, 15]
  shiftOff := #v[0, 1, 2, 3, 4, 5, 6, 7]
  hardN := 8
  shiftN := 8

/-- A frame as (LO, HI, SH) numbers. -/
def frameOf (w : Wiring) (pixels : Vector Byte 8) : List (Nat × Nat × Nat) :=
  ((compile (generate pixels) (buildRoutes w)).1.toList).map fun sl => (sl.lo.toNat, sl.hi.toNat, sl.sh.toNat)

/-- Sixteen slots: eight even ones, each followed by the same odd one. -/
def interleaved (odd : Nat × Nat × Nat) (even : List (Nat × Nat × Nat)) : List (Nat × Nat × Nat) :=
  even.flatMap fun x => [x, odd]

end Sys2Proof.Claims

open Sys2Proof Sys2Proof.Machine Sys2Proof.Claims

/-! ## Reset, the ports and the order of events -/

/-- 10_state.md R43: the value of every register after reset; the three arrays at the open parameters of R9; the
environment's pins at GPIO_INIT. -/
def Obligations.ResetRegisterValues : Prop :=
  let r := State.reset.regs
  r.phase = .unconfigured ∧ r.fresh = false ∧ r.flipped = false ∧ r.spWritten = false ∧ r.hpWritten = false ∧
    r.frameValid = false ∧ r.status = 0 ∧
    r.shiftPins.data = 0 ∧ r.shiftPins.sclk = 0 ∧ r.shiftPins.latch = 0 ∧
    (∀ i : Fin 8, r.wiring.hardPins[i] = 0 ∧ r.wiring.hardRc[i] = Config.defaultHardRc i ∧
      r.wiring.shiftRc[i] = Config.defaultShiftRc i ∧ r.wiring.shiftOff[i] = Config.defaultShiftOff i) ∧
    r.wiring.hardN = 8 ∧ r.wiring.shiftN = 8 ∧
    (∀ i : Fin 8, r.pixels[i] = 0 ∧ r.pattern[i] = 0xFF00) ∧
    (∀ p : Fin 16, r.route[p] = .unresolved ∧ r.frame[p].lo = 0 ∧ r.frame[p].hi = 0 ∧ r.frame[p].sh = 0) ∧
    State.reset.busy = false ∧
    State.reset.env.portLo = Config.gpioInitPortLo ∧ State.reset.env.portHi = Config.gpioInitPortHi ∧
    State.reset.env.ddrLo = Config.gpioInitDdrLo ∧ State.reset.env.ddrHi = Config.gpioInitDdrHi

/-- 70_reset_and_hazards.md R290, R292: the reset input in any phase and during a command. The model takes reset as one
move (log 18). -/
def Obligations.ResetAbandonsTheCommandAndKeepsTheEnvironment : Prop :=
  ∀ (s : State) (rest : List Input), s.inputs = .reset :: rest →
    step s = .next { s with regs := State.reset.regs, pending := [], inputs := rest }

/-- R22: PHASE changes only along the lifecycle, each change by an accepted command of its own; so only reset leaves DEAD
or FAULT. -/
def Obligations.PhaseChangesOnlyAlongTheLifecycle : Prop :=
  ∀ s t : State, step s = .next t → s.inputs.head? ≠ some .reset → t.regs.phase ≠ s.regs.phase →
    ∃ w rest i, s.inputs = .command w :: rest ∧ s.pending = [] ∧ decode w = .ok i ∧
      ((i.op = .construct ∧ s.regs.phase = .unconfigured ∧ t.regs.phase = .ready) ∨
        (i.op = .shutdown ∧ s.regs.phase = .ready ∧ t.regs.phase = .dead) ∨
        (i.op ∈ [Op.refresh, .refreshWait, .shutdown] ∧ s.regs.phase = .ready ∧ t.regs.phase = .fault ∧
          t.regs.status.getLsbD 7 = true))

/-- R27: every STATUS bit is sticky; no move but reset clears one. -/
def Obligations.StatusBitsAreSticky : Prop :=
  ∀ s t : State, step s = .next t → s.inputs.head? ≠ some .reset →
    ∀ k : Nat, s.regs.status.getLsbD k = true → t.regs.status.getLsbD k = true

/-- 20_memory.md R61, 60_exceptions.md R254: a word that decodes is run when the block is not BUSY. The step takes the word
from the head of `inputs` and adds nothing else around exec. -/
def Obligations.StepRunsTheDecodedCommand : Prop :=
  (∀ (s : State) (w : CmdWord) (rest : List Input) (i : Instr), s.pending = [] → s.inputs = .command w :: rest →
      decode w = .ok i → step s = exec i { s with inputs := rest }) ∧
    (∀ (s : State) (nbits w : Nat), (s.withFetchWord nbits w).pending = [] ∧
      (s.withFetchWord nbits w).regs = s.regs ∧
      (s.withFetchWord nbits w).inputs = .command (BitVec.ofNat 72 (w % 2 ^ nbits)) :: s.inputs)

/-- 30_encoding.md R86, 60_exceptions.md R270: any move in any state has a defined outcome; the machine never stops. -/
def Obligations.EveryStepAnswersANextState : Prop := ∀ s : State, ∃ t : State, step s = .next t

/-- R61, R42, R63: a BUSY block takes no word and answers no read; the environment accepts exactly the first presented event,
with its effect on the pins and the shift register, and nothing else changes. That it does so when a word, a read or nothing
is next is the model's schedule (log 3); the move accept is the handshake itself. With nothing presented, accept changes
nothing, and an idle block without a move waits (70_reset_and_hazards.md R291, log 22). -/
def Obligations.BusyBlockOnlyPresentsItsEvents : Prop :=
  (∀ (s : State) (e : Event) (es : List Event), s.pending = e :: es →
    (s.inputs = [] ∨ (∃ w rest, s.inputs = .command w :: rest) ∨ (∃ a rest, s.inputs = .readback a :: rest) →
      step s = .next (handedOver e es s)) ∧
    (∀ rest, s.inputs = .accept :: rest → step s = .next { handedOver e es s with inputs := rest })) ∧
  (∀ s : State, s.pending = [] →
    (s.inputs = [] → step s = .next s) ∧
    (∀ rest, s.inputs = .accept :: rest → step s = .next { s with inputs := rest }))

/-- 20_memory.md R66: an idle block answers a read with a function of the address and the registers and changes nothing;
while BUSY the answer is held. -/
def Obligations.ReadbackAnswersWithoutSideEffect : Prop :=
  ∀ (s : State) (a : BitVec 8) (rest : List Input), s.inputs = .readback a :: rest →
    (s.pending = [] →
      step s = .next { s with inputs := rest, answers := s.answers ++ [(a, readReg s.regs a)] }) ∧
    (s.pending ≠ [] → ∃ t : State, step s = .next t ∧ t.answers = s.answers ∧ t.inputs = s.inputs ∧ t.regs = s.regs)

/-- R63, R72: the trace followed by what is still presented only grows at its end, and only by a command taken from the
port while nothing is presented. -/
def Obligations.EventTraceGrowsInCommandOrder : Prop :=
  ∀ s t : State, step s = .next t → s.inputs.head? ≠ some .reset →
    ∃ new : List Event, t.trace ++ t.pending = s.trace ++ s.pending ++ new ∧
      (new ≠ [] → s.pending = [] ∧ t.trace = s.trace ∧ ∃ w rest, s.inputs = .command w :: rest ∧ t.inputs = rest)

/-- 70_reset_and_hazards.md R304 (d), R61: while the environment accepts, a command in progress completes in as many steps
as it has events; the events join the trace in order and take their effect on the pins and the shift register one after the
other, and nothing else changes (the model's schedule, log 3). -/
def Obligations.PresentedEventsAreAllDelivered : Prop :=
  ∀ s : State,
    (s.inputs = [] ∨ (∃ w rest, s.inputs = .command w :: rest) ∨ ∃ a rest, s.inputs = .readback a :: rest) →
    ∃ t : State, (Host.Core.run Sys2Proof.core s.pending.length s : Result) = .next t ∧ t.busy = false ∧ t.trace = s.trace ++ s.pending ∧
      (t.env, t.draws) = takeEvents s.regs.shiftPins (s.env, s.draws) s.pending ∧ t.regs = s.regs ∧ t.inputs = s.inputs ∧ t.answers = s.answers

/-- 93_implementation_defined.md U11, R304 (d): while the environment accepts nothing, the block stays as it is. The move
stall, one step in which nothing is accepted, is the model's schedule (log 3). -/
def Obligations.StalledBlockStaysBusy : Prop :=
  ∀ (n : Nat) (s : State) (rest : List Input), s.inputs = List.replicate n .stall ++ rest →
    (Host.Core.run Sys2Proof.core n s : Result) = .next { s with inputs := rest }

/-! ## Encoding -/

/-- 30_encoding.md R82: a word decodes to command M exactly when (word & mask_M) == match_M. -/
def Obligations.DecodesExactlyInItsTableRow : Prop :=
  ∀ (o : Op) (w : CmdWord), (∃ i : Instr, decode w = .ok i ∧ i.op = o) ↔ inRow w o

/-- R80 to R83: decoding the word of any command gives that command back, every operand at every value. -/
def Obligations.DecodeOfEncodeIsTheCommand : Prop := ∀ i : Instr, decode (encode i) = .ok i

/-- R80 to R83, R86: each decoded word is the word of its command, so no two words decode alike. -/
def Obligations.EncodeOfDecodeIsTheWord : Prop := ∀ (w : CmdWord) (i : Instr), decode w = .ok i → encode i = w

/-- R81: the field positions and reserved bits of the seven payload formats, each with the commands that use it. -/
def Obligations.PayloadFieldsSitWhereTheFormatsSay : Prop :=
  ∀ pl : Payload,
    (∀ x ∈ [((0x11 : BitVec 8), Instr.flip), (0x20, .refresh), (0x30, .shutdown)],
      decode (mkWord x.1 pl) = if pl = 0 then .ok x.2 else .error .reservedBits) ∧
    (decode (mkWord 0x01 pl) =
      if pl.extractLsb' 24 40 = 0 then
        .ok (.cfgShiftPins (pl.extractLsb' 0 8) (pl.extractLsb' 8 8) (pl.extractLsb' 16 8))
      else .error .reservedBits) ∧
    (∃ v : Vector Byte 8, (∀ i : Fin 8, v[i] = pl.extractLsb' (8 * i.val) 8) ∧
      decode (mkWord 0x02 pl) = .ok (.cfgHardPins v) ∧ decode (mkWord 0x10 pl) = .ok (.construct v) ∧
      decode (mkWord 0x12 pl) = .ok (.setPixels v)) ∧
    (∃ v : Vector PosField 8, (∀ i : Fin 8, v[i] = pl.extractLsb' (4 * i.val) 4) ∧
      (decode (mkWord 0x03 pl) = if pl.extractLsb' 32 32 = 0 then .ok (.cfgHardRc v) else .error .reservedBits) ∧
      (decode (mkWord 0x04 pl) = if pl.extractLsb' 32 32 = 0 then .ok (.cfgShiftRc v) else .error .reservedBits)) ∧
    (∃ v : Vector Offset 8, (∀ i : Fin 8, v[i] = pl.extractLsb' (4 * i.val) 3) ∧
      (decode (mkWord 0x05 pl) =
        if pl.extractLsb' 32 32 = 0 ∧ ∀ i : Fin 8, pl.getLsbD (4 * i.val + 3) = false then .ok (.cfgShiftOff v)
        else .error .reservedBits)) ∧
    (decode (mkWord 0x06 pl) =
      if pl.extractLsb' 8 56 = 0 then .ok (.cfgCounts (pl.extractLsb' 0 4) (pl.extractLsb' 4 4))
      else .error .reservedBits) ∧
    (decode (mkWord 0x21 pl) =
      if pl.extractLsb' 32 32 = 0 then .ok (.refreshWait (pl.extractLsb' 0 32)) else .error .reservedBits)

/-- R89: the twelve worked encodings: the text assembles to the word, the word decodes to the command, and the command's
word is that word. -/
def Obligations.WorkedEncodings : Prop :=
  ∀ x ∈ [("CFG_SHIFT_PINS 10, 11, 12", Instr.cfgShiftPins 10 11 12, (0x0100000000000C0B0A : CmdWord)),
      ("CFG_HARD_PINS 2, 3, 4, 5, 6, 7, 8, 9", .cfgHardPins #v[2, 3, 4, 5, 6, 7, 8, 9], 0x020908070605040302),
      ("CFG_HARD_RC C0, C1, C2, C3, C4, C5, C6, C7", .cfgHardRc #v[0, 1, 2, 3, 4, 5, 6, 7], 0x030000000076543210),
      ("CFG_SHIFT_RC R0, R1, R2, R3, R4, R5, R6, R7", .cfgShiftRc #v[8, 9, 10, 11, 12, 13, 14, 15], 0x0400000000FEDCBA98),
      ("CFG_SHIFT_OFF 0, 1, 2, 3, 4, 5, 6, 7", .cfgShiftOff #v[0, 1, 2, 3, 4, 5, 6, 7], 0x050000000076543210),
      ("CFG_COUNTS 8, 8", .cfgCounts 8 8, 0x060000000000000088),
      ("CONSTRUCT 0, 0, 0, 0, 0, 0, 0, 0", .construct #v[0, 0, 0, 0, 0, 0, 0, 0], 0x100000000000000000),
      ("FLIP", .flip, 0x110000000000000000),
      ("SET_PIXELS 0x80, 0, 0, 0, 0, 0, 0, 0", .setPixels #v[0x80, 0, 0, 0, 0, 0, 0, 0], 0x120000000000000080),
      ("REFRESH", .refresh, 0x200000000000000000),
      ("REFRESH_WAIT 1000", .refreshWait 1000, 0x2100000000000003E8),
      ("SHUTDOWN", .shutdown, 0x300000000000000000)],
    assemble x.1.toList = .ok [x.2.2] ∧ decode x.2.2 = .ok x.2.1 ∧ encode x.2.1 = x.2.2

/-- R95: KIND, A and B of every event word, the rule's three examples, and that a word says which event it is. -/
def Obligations.EventWordFields : Prop :=
  (∀ e : Event, eventOfWord e.word = some e) ∧
  (∀ (p : PinNum) (v : Bool) (g : Group) (b c : Byte) (us : BitVec 32),
    (Event.dirOut p).word.toNat = 1 * 2 ^ 40 + p.toNat * 2 ^ 32 ∧
    (Event.pin p v).word.toNat = 2 * 2 ^ 40 + p.toNat * 2 ^ 32 + v.toNat ∧
    (Event.group g b).word.toNat = 3 * 2 ^ 40 + (if g = .hi then 1 else 0) * 2 ^ 32 + b.toNat ∧
    (Event.delay us).word.toNat = 4 * 2 ^ 40 + us.toNat ∧
    (Event.diag c).word.toNat = 5 * 2 ^ 40 + c.toNat) ∧
  (Event.pin 10 true).word = 0x20A00000001 ∧ (Event.group .hi 0x02).word = 0x30100000002 ∧
  (Event.delay 1000).word = 0x400000003E8

/-- R87: the assembler never emits a word with a reserved bit set, nor an illegal opcode. -/
def Obligations.AssembledWordsAreWellFormed : Prop :=
  ∀ (text : List Char) (ws : List CmdWord), assemble text = .ok ws → ∀ w ∈ ws, ∃ o : Op, inRow w o

/-- R88: the three pseudo-instructions and their expansions. -/
def Obligations.PseudoInstructionsExpand : Prop :=
  assembleLine { name := .blank, operands := [] } = .ok [.setPixels #v[0, 0, 0, 0, 0, 0, 0, 0]] ∧
  (∀ (r : Vector Byte 8) (us : BitVec 32),
    assembleLine { name := .showWait, operands := (r.toList.map fun b => .num b.toNat) ++ [.num us.toNat] } =
      .ok [.setPixels r, .refreshWait us]) ∧
  (∀ n : Nat, 1 ≤ n →
    assembleLine { name := .refreshN, operands := [.num n] } = .ok (List.replicate n .refresh)) ∧
  assembleLine { name := .refreshN, operands := [.num 0] } = .error .operandRange

/-! ## Configuration commands -/

/-- 40_lifecycle.md R111. -/
def Obligations.CfgShiftPinsWritesTheTriple : Prop :=
  ∀ (s : State) (data sclk latch : PinNum),
    (s.regs.phase = .unconfigured →
      exec (.cfgShiftPins data sclk latch) s = .next { s with regs :=
        { s.regs with shiftPins := { data := data, sclk := sclk, latch := latch }, spWritten := true } }) ∧
    (s.regs.phase ≠ .unconfigured → exec (.cfgShiftPins data sclk latch) s = .next (flagged 0x02 s)) ∧
    (∀ pl : Payload,
      (pl.extractLsb' 24 40 = 0 → decode (mkWord 0x01 pl) =
        .ok (.cfgShiftPins (pl.extractLsb' 0 8) (pl.extractLsb' 8 8) (pl.extractLsb' 16 8))) ∧
      (pl.extractLsb' 24 40 ≠ 0 → rejectedIllegal (mkWord 0x01 pl)))

/-- R112: all eight entries are written whatever HARD_N is; F_BYTES8 has no reserved bit. -/
def Obligations.CfgHardPinsWritesTheOctet : Prop :=
  ∀ (s : State) (pins : Vector PinNum 8),
    (s.regs.phase = .unconfigured →
      exec (.cfgHardPins pins) s = .next { s with regs :=
        { s.regs with wiring := { s.regs.wiring with hardPins := pins }, hpWritten := true } }) ∧
    (s.regs.phase ≠ .unconfigured → exec (.cfgHardPins pins) s = .next (flagged 0x02 s)) ∧
    (∀ pl : Payload, ∃ v : Vector PinNum 8, (∀ i : Fin 8, v[i] = pl.extractLsb' (8 * i.val) 8) ∧
      decode (mkWord 0x02 pl) = .ok (.cfgHardPins v))

/-- R113. -/
def Obligations.CfgHardRcWritesTheMapping : Prop :=
  ∀ (s : State) (rc : Vector PosField 8),
    (s.regs.phase = .unconfigured →
      exec (.cfgHardRc rc) s = .next { s with regs :=
        { s.regs with wiring := { s.regs.wiring with hardRc := rc } } }) ∧
    (s.regs.phase ≠ .unconfigured → exec (.cfgHardRc rc) s = .next (flagged 0x02 s)) ∧
    (∀ pl : Payload,
      (pl.extractLsb' 32 32 = 0 → ∃ v : Vector PosField 8, (∀ i : Fin 8, v[i] = pl.extractLsb' (4 * i.val) 4) ∧
        decode (mkWord 0x03 pl) = .ok (.cfgHardRc v)) ∧
      (pl.extractLsb' 32 32 ≠ 0 → rejectedIllegal (mkWord 0x03 pl)))

/-- R114. -/
def Obligations.CfgShiftRcWritesTheMapping : Prop :=
  ∀ (s : State) (rc : Vector PosField 8),
    (s.regs.phase = .unconfigured →
      exec (.cfgShiftRc rc) s = .next { s with regs :=
        { s.regs with wiring := { s.regs.wiring with shiftRc := rc } } }) ∧
    (s.regs.phase ≠ .unconfigured → exec (.cfgShiftRc rc) s = .next (flagged 0x02 s)) ∧
    (∀ pl : Payload,
      (pl.extractLsb' 32 32 = 0 → ∃ v : Vector PosField 8, (∀ i : Fin 8, v[i] = pl.extractLsb' (4 * i.val) 4) ∧
        decode (mkWord 0x04 pl) = .ok (.cfgShiftRc v)) ∧
      (pl.extractLsb' 32 32 ≠ 0 → rejectedIllegal (mkWord 0x04 pl)))

/-- R115. -/
def Obligations.CfgShiftOffWritesTheOffsets : Prop :=
  ∀ (s : State) (off : Vector Offset 8),
    (s.regs.phase = .unconfigured →
      exec (.cfgShiftOff off) s = .next { s with regs :=
        { s.regs with wiring := { s.regs.wiring with shiftOff := off } } }) ∧
    (s.regs.phase ≠ .unconfigured → exec (.cfgShiftOff off) s = .next (flagged 0x02 s)) ∧
    (∀ pl : Payload,
      (pl.extractLsb' 32 32 = 0 → (∀ i : Fin 8, pl.getLsbD (4 * i.val + 3) = false) →
        ∃ v : Vector Offset 8, (∀ i : Fin 8, v[i] = pl.extractLsb' (4 * i.val) 3) ∧
          decode (mkWord 0x05 pl) = .ok (.cfgShiftOff v)) ∧
      (pl.extractLsb' 32 32 ≠ 0 ∨ (∃ i : Fin 8, pl.getLsbD (4 * i.val + 3) = true) →
        rejectedIllegal (mkWord 0x05 pl)))

/-- R116: both counts are written, or neither when one is above 8. -/
def Obligations.CfgCountsWritesLegalCounts : Prop :=
  ∀ (s : State) (hn sn : Count),
    (s.regs.phase = .unconfigured → hn.toNat ≤ 8 → sn.toNat ≤ 8 →
      exec (.cfgCounts hn sn) s = .next { s with regs :=
        { s.regs with wiring := { s.regs.wiring with hardN := hn, shiftN := sn } } }) ∧
    (s.regs.phase = .unconfigured → (8 < hn.toNat ∨ 8 < sn.toNat) →
      exec (.cfgCounts hn sn) s = .next (flagged 0x04 s)) ∧
    (s.regs.phase ≠ .unconfigured → exec (.cfgCounts hn sn) s = .next (flagged 0x02 s)) ∧
    (∀ pl : Payload,
      (pl.extractLsb' 8 56 = 0 →
        decode (mkWord 0x06 pl) = .ok (.cfgCounts (pl.extractLsb' 0 4) (pl.extractLsb' 4 4))) ∧
      (pl.extractLsb' 8 56 ≠ 0 → rejectedIllegal (mkWord 0x06 pl)))

/-! ## Lifecycle, refresh and flip -/

/-- R117, R118: the events, every register written, and everything else unchanged. -/
def Obligations.ConstructBuildsTheObject : Prop :=
  ∀ (s : State) (rows : Vector Byte 8),
    (s.regs.phase = .unconfigured → s.regs.spWritten = true → s.regs.hpWritten = true →
      exec (.construct rows) s = .next { s with
        pending := s.pending ++ dirOutEvents s.regs
        regs := { s.regs with
          route := buildRoutes s.regs.wiring
          pixels := rows
          pattern := generate rows
          frame := (compile (generate rows) (buildRoutes s.regs.wiring)).1
          frameValid := (compile (generate rows) (buildRoutes s.regs.wiring)).2
          flipped := false
          fresh := true
          phase := .ready
          status := s.regs.status ||| dupBit s.regs.wiring ||| uncoveredBit s.regs.wiring } }) ∧
    (¬ (s.regs.phase = .unconfigured ∧ s.regs.spWritten = true ∧ s.regs.hpWritten = true) →
      exec (.construct rows) s = .next (flagged 0x02 s)) ∧
    (∀ pl : Payload, ∃ v : Vector Byte 8, (∀ i : Fin 8, v[i] = pl.extractLsb' (8 * i.val) 8) ∧
      decode (mkWord 0x10 pl) = .ok (.construct v))

/-- R120, R119, R123: the bitmap and all that is computed from it; the same bitmap twice changes nothing the second time. -/
def Obligations.SetPixelsReplacesTheBitmap : Prop :=
  ∀ (s : State) (rows : Vector Byte 8),
    (s.regs.phase = .ready →
      exec (.setPixels rows) s = .next { s with regs := { s.regs with
        fresh := false
        pixels := rows
        pattern := generate rows
        frame := (compile (generate rows) s.regs.route).1
        frameValid := (compile (generate rows) s.regs.route).2 } }) ∧
    (s.regs.phase ≠ .ready → exec (.setPixels rows) s = .next (flagged 0x02 s)) ∧
    (s.regs.phase = .ready →
      ∃ t : State, exec (.setPixels rows) s = .next t ∧ exec (.setPixels rows) t = .next t) ∧
    (∀ pl : Payload, ∃ v : Vector Byte 8, (∀ i : Fin 8, v[i] = pl.extractLsb' (8 * i.val) 8) ∧
      decode (mkWord 0x12 pl) = .ok (.setPixels v))

/-- 44_serializer.md R206, R205: a refresh presents the sixteen slots, or faults without an event. -/
def Obligations.RefreshPresentsTheFrame : Prop :=
  ∀ s : State,
    (s.regs.phase = .ready → s.regs.frameValid = true →
      exec .refresh s = .next { s with
        pending := s.pending ++ frameEvents s.regs.shiftPins s.regs.frame
        regs := { s.regs with fresh := false } }) ∧
    (s.regs.phase = .ready → s.regs.frameValid = false →
      exec .refresh s = .next { s with regs :=
        { s.regs with fresh := false, status := s.regs.status ||| 0x80, phase := .fault } }) ∧
    (s.regs.phase ≠ .ready → exec .refresh s = .next (flagged 0x02 s)) ∧
    (decode (mkWord 0x20 0) = .ok .refresh ∧ ∀ pl : Payload, pl ≠ 0 → rejectedIllegal (mkWord 0x20 pl))

/-- R207: the refresh and then one DELAY event, US = 0 included; no event at all when the frame is invalid. -/
def Obligations.RefreshWaitPresentsTheFrameAndTheDelay : Prop :=
  ∀ (s : State) (us : BitVec 32),
    (s.regs.phase = .ready → s.regs.frameValid = true →
      exec (.refreshWait us) s = .next { s with
        pending := s.pending ++ frameEvents s.regs.shiftPins s.regs.frame ++ [.delay us]
        regs := { s.regs with fresh := false } }) ∧
    (s.regs.phase = .ready → s.regs.frameValid = false →
      exec (.refreshWait us) s = .next { s with regs :=
        { s.regs with fresh := false, status := s.regs.status ||| 0x80, phase := .fault } }) ∧
    (s.regs.phase ≠ .ready → exec (.refreshWait us) s = .next (flagged 0x02 s)) ∧
    (∀ pl : Payload,
      (pl.extractLsb' 32 32 = 0 → decode (mkWord 0x21 pl) = .ok (.refreshWait (pl.extractLsb' 0 32))) ∧
      (pl.extractLsb' 32 32 ≠ 0 → rejectedIllegal (mkWord 0x21 pl)))

/-- R121: the bitmap cleared, one frame presented, DEAD, where every later command is rejected; or the fault with only FRESH, STATUS and PHASE changed. The premise
is the invariant R39, which rules out a valid frame over an unresolved route (StepKeepsTheInvariant). -/
def Obligations.ShutdownRendersOneBlankFrame : Prop :=
  ∀ s : State, (s.regs.phase = .ready → cachesConsistent s.regs) →
    (s.regs.phase = .ready → s.regs.frameValid = true →
      exec .shutdown s = .next { s with
        pending := s.pending ++ frameEvents s.regs.shiftPins (compile (generate allOff) s.regs.route).1
        regs := { s.regs with
          fresh := false
          pixels := #v[0, 0, 0, 0, 0, 0, 0, 0]
          pattern := generate allOff
          frame := (compile (generate allOff) s.regs.route).1
          frameValid := true
          phase := .dead } }) ∧
    (s.regs.phase = .ready → s.regs.frameValid = false →
      exec .shutdown s = .next { s with regs :=
        { s.regs with fresh := false, status := s.regs.status ||| 0x80, phase := .fault } }) ∧
    (s.regs.phase ≠ .ready → exec .shutdown s = .next (flagged 0x02 s)) ∧
    (s.regs.phase = .dead → ∀ i : Instr, exec i s = .next (flagged 0x02 s)) ∧
    (decode (mkWord 0x30 0) = .ok .shutdown ∧ ∀ pl : Payload, pl ≠ 0 → rejectedIllegal (mkWord 0x30 pl))

/-- 45_flipper.md R233 to R236 with R231: the swap, the reversal, the rebuild, the warnings, and everything FLIP does not
touch. The premise on the counts is the invariant R34 (StepKeepsTheInvariant). -/
def Obligations.FlipSwapsReversesAndRebuilds : Prop :=
  ∀ s : State, s.regs.phase = .ready → countsLegal s.regs.wiring → s.regs.wiring.hardN = s.regs.wiring.shiftN →
    ∃ t : State, exec .flip s = .next t ∧
      (∀ i : Fin 8, i.val < s.regs.wiring.hardN.toNat →
        t.regs.wiring.hardRc[i] = s.regs.wiring.shiftRc[i] ∧ t.regs.wiring.shiftRc[i] = s.regs.wiring.hardRc[i]) ∧
      (∀ i j : Fin 8, i.val + j.val + 1 = s.regs.wiring.hardN.toNat →
        t.regs.wiring.shiftOff[i] = s.regs.wiring.shiftOff[j]) ∧
      (∀ i : Fin 8, s.regs.wiring.hardN.toNat ≤ i.val →
        t.regs.wiring.hardRc[i] = s.regs.wiring.hardRc[i] ∧ t.regs.wiring.shiftRc[i] = s.regs.wiring.shiftRc[i] ∧
          t.regs.wiring.shiftOff[i] = s.regs.wiring.shiftOff[i]) ∧
      t = { s with regs := { s.regs with
        wiring := { s.regs.wiring with
          hardRc := t.regs.wiring.hardRc, shiftRc := t.regs.wiring.shiftRc, shiftOff := t.regs.wiring.shiftOff }
        fresh := false
        flipped := !s.regs.flipped
        route := buildRoutes t.regs.wiring
        frame := (compile s.regs.pattern (buildRoutes t.regs.wiring)).1
        frameValid := (compile s.regs.pattern (buildRoutes t.regs.wiring)).2
        status := s.regs.status ||| lateBit s.regs.fresh ||| dupBit t.regs.wiring ||| uncoveredBit t.regs.wiring } }

/-- R232, 60_exceptions.md R253: no mutation, ERR_FLIP_MISMATCH, exactly one DIAG(1), PHASE stays. -/
def Obligations.FlipMismatchIsReportedWithoutMutation : Prop :=
  ∀ s : State, s.regs.phase = .ready → s.regs.wiring.hardN ≠ s.regs.wiring.shiftN →
    exec .flip s = .next { s with
      pending := s.pending ++ [.diag 1]
      regs := { s.regs with fresh := false, status := s.regs.status ||| lateBit s.regs.fresh ||| 0x08 } }

/-- R237: two mutating FLIPs restore every register but STATUS and FRESH, whatever steps lie between them, as long as no move
taken in them is a reset or a FLIP, the block is still READY and PIXELS are what they were. STATUS then holds WARN_LATE_FLIP and
FRESH is 0 (R23). The premises on the counts and the caches are the invariants R34 and R39 (StepKeepsTheInvariant). -/
def Obligations.FlipTwiceRestoresTheConfiguration : Prop :=
  ∀ s : State, s.regs.phase = .ready → countsLegal s.regs.wiring → cachesConsistent s.regs →
    s.regs.wiring.hardN = s.regs.wiring.shiftN →
    ∃ t : State, exec .flip s = .next t ∧
      ∀ (n : Nat) (m : State) (taken : List Input), (Host.Core.run Sys2Proof.core n t : Result) = .next m →
        s.inputs = taken ++ m.inputs → (∀ x ∈ taken, x ≠ .reset ∧ ∀ w, x = .command w → ¬ inRow w .flip) →
        m.regs.phase = .ready → m.regs.pixels = s.regs.pixels →
          ∃ u : State, exec .flip m = .next u ∧
            u.regs = { s.regs with fresh := false, status := u.regs.status } ∧ u.regs.status.getLsbD 4 = true

/-- R238: the routes after a flip of well-formed wiring. -/
def Obligations.RoutesAfterAFlip : Prop :=
  ∀ w : Wiring, wellFormedWiring w →
    (∀ (i : Fin 8) (p : Pos), p.val = w.shiftRc[i].toNat → (buildRoutes w.flipped)[p] = .direct w.hardPins[i]) ∧
    (∀ (i j : Fin 8) (p : Pos), i.val + j.val = 7 → p.val = w.hardRc[i].toNat →
      (buildRoutes w.flipped)[p] = .shifted w.shiftOff[j]) ∧
    wellFormedWiring w.flipped

/-- R200 to R204: the 28 events of one slot in order; R209: the data-line levels for shift byte 0b00000101, each followed
by a clock pulse, then one latch pulse. -/
def Obligations.SlotEventsInOrder : Prop :=
  (∀ (p : ShiftPins) (sl : Slot), emitSlot p sl = slotEvents p sl) ∧
  (∀ (p : ShiftPins) (lo hi : Byte), (emitSlot p { lo := lo, hi := hi, sh := 0b00000101 }).take 26 =
    ([true, false, true, false, false, false, false, false].flatMap fun v =>
      [Event.pin p.data v, .pin p.sclk true, .pin p.sclk false]) ++ [.pin p.latch true, .pin p.latch false])

/-- R208: the event counts; the clock and latch pulses of a refresh when the three control pins differ. -/
def Obligations.EventCounts : Prop :=
  (∀ (p : ShiftPins) (sl : Slot), (emitSlot p sl).length = 28) ∧
  (∀ r : Regs, (renderEvents r).length = 448 ∧
    (r.shiftPins.sclk ≠ r.shiftPins.data → r.shiftPins.sclk ≠ r.shiftPins.latch →
      r.shiftPins.latch ≠ r.shiftPins.data →
      (renderEvents r).count (.pin r.shiftPins.sclk true) = 128 ∧
        (renderEvents r).count (.pin r.shiftPins.latch true) = 16)) ∧
  (∀ (s : State) (us : BitVec 32), s.regs.phase = .ready → cachesConsistent s.regs →
    ∃ t u v : State, exec .refresh s = .next t ∧ exec (.refreshWait us) s = .next u ∧ exec .shutdown s = .next v ∧
      (s.regs.frameValid = true → t.pending.length = s.pending.length + 448 ∧
        u.pending.length = s.pending.length + 449 ∧ v.pending.length = s.pending.length + 448) ∧
      (s.regs.frameValid = false → t.pending = s.pending ∧ u.pending = s.pending ∧ v.pending = s.pending))

/-! ## Router, pattern generator, compiler -/

/-- 41_pin_router.md R141, R142, R144: hardwired mapping first, then the shift mapping, the lowest index of each; the pin
or offset recorded is the entry's. -/
def Obligations.RoutesFollowTheClaims : Prop :=
  ∀ (w : Wiring) (p : Pos),
    (∀ i, hardClaim w p i → (∀ k, hardClaim w p k → i ≤ k) → (buildRoutes w)[p] = .direct w.hardPins[i]) ∧
    (∀ j, (∀ i, ¬ hardClaim w p i) → shiftClaim w p j → (∀ k, shiftClaim w p k → j ≤ k) →
      (buildRoutes w)[p] = .shifted w.shiftOff[j]) ∧
    (claimedByNone w p → (buildRoutes w)[p] = .unresolved)

/-- R145, R146: a route build sets WARN_DUP_CLAIM exactly when some position is claimed by two or more entries, and
WARN_UNCOVERED exactly when it leaves a position UNRESOLVED; it completes either way, and the bits are sticky. -/
def Obligations.RouteBuildWarnings : Prop :=
  ∀ r : Regs,
    (r.rebuildRoutes.status.getLsbD 5 = true ↔ r.status.getLsbD 5 = true ∨ ∃ p, claimedTwice r.wiring p) ∧
    (r.rebuildRoutes.status.getLsbD 6 = true ↔
      r.status.getLsbD 6 = true ∨ ∃ p : Pos, r.rebuildRoutes.route[p] = .unresolved) ∧
    r.rebuildRoutes.route = buildRoutes r.wiring

/-- R148: well-formed wiring claims every position exactly once; too few entries leave one unclaimed. -/
def Obligations.WellFormedWiringResolvesEveryPosition : Prop :=
  (∀ w : Wiring, wellFormedWiring w →
    (∀ p : Pos, ¬ claimedTwice w p ∧ ¬ claimedByNone w p ∧ (buildRoutes w)[p] ≠ .unresolved) ∧
    dupClaim w = false ∧ uncovered w = false ∧
    (∀ (p : Pos) (i : Fin 8), hardClaim w p i → (buildRoutes w)[p] = .direct w.hardPins[i]) ∧
    (∀ (p : Pos) (j : Fin 8), shiftClaim w p j → (buildRoutes w)[p] = .shifted w.shiftOff[j])) ∧
  (∀ w : Wiring, w.hardN.toNat + w.shiftN.toNat < 16 → ∃ p : Pos, (buildRoutes w)[p] = .unresolved)

/-- 42_pattern_generator.md R166: the closed form of every pattern. -/
def Obligations.PatternClosedForm : Prop :=
  ∀ (pixels : Vector Byte 8) (k r : Fin 8), r.val + k.val = 7 →
    (generate pixels)[k] =
      (0xFF00 &&& ~~~((if pixels[r] ≠ 0 then 1#16 else 0#16) <<< (8 + r.val))) ||| (pixels[r]).setWidth 16

/-- R167: at most one row is selected, exactly one precisely when the source row has a lit pixel; a fully lit bitmap
selects eight distinct rows and drives every column. -/
def Obligations.EachPatternSelectsAtMostOneRow : Prop :=
  (∀ (pixels : Vector Byte 8) (k r : Fin 8), r.val + k.val = 7 →
    (∀ a : Fin 8, (generate pixels)[k].getLsbD (8 + a.val) = false ↔ a = r ∧ pixels[r] ≠ 0)) ∧
  (∀ k r : Fin 8, r.val + k.val = 7 → ∀ a : Fin 8,
    ((generate (Vector.replicate 8 0xFF))[k].getLsbD (8 + a.val) = false ↔ a = r) ∧
      (generate (Vector.replicate 8 0xFF))[k].getLsbD a.val = true)

/-- 43_output_compiler.md R189: every bit of every slot is the exclusive-or of the pattern bits routed to it; all odd slots
are equal. -/
def Obligations.CompiledFrameClosedForm : Prop :=
  ∀ (pattern : Vector RowColBits 8) (route : Vector Route 16), (∀ p : Pos, route[p] ≠ .unresolved) →
    (∀ (s : Fin 16) (b : Fin 8),
      (compile pattern route).1[s].sh.getLsbD b.val =
        xorOver (fun p => (slotPattern pattern s).getLsbD p.val &&
          match route[p] with | .shifted o => decide (o.toNat = b.val) | _ => false) ∧
      (compile pattern route).1[s].lo.getLsbD b.val =
        xorOver (fun p => (slotPattern pattern s).getLsbD p.val &&
          match route[p] with | .direct q => decide (q.toNat < 8 ∧ q.toNat = b.val) | _ => false) ∧
      (compile pattern route).1[s].hi.getLsbD b.val =
        xorOver (fun p => (slotPattern pattern s).getLsbD p.val &&
          match route[p] with | .direct q => decide (8 ≤ q.toNat ∧ q.toNat % 8 = b.val) | _ => false)) ∧
    (∀ s t : Fin 16, s.val % 2 = 1 → t.val % 2 = 1 → (compile pattern route).1[s] = (compile pattern route).1[t])

/-- R187: one UNRESOLVED entry invalidates the whole frame, every byte 0; without one the frame is valid; an invalid frame
is never emitted. -/
def Obligations.UnresolvedRouteInvalidatesTheFrame : Prop :=
  (∀ (pattern : Vector RowColBits 8) (route : Vector Route 16),
    ((∃ p : Pos, route[p] = .unresolved) →
      (compile pattern route).2 = false ∧
        ∀ s : Fin 16, (compile pattern route).1[s] = { lo := 0, hi := 0, sh := 0 }) ∧
    ((∀ p : Pos, route[p] ≠ .unresolved) → (compile pattern route).2 = true)) ∧
  (∀ (i : Instr) (s : State), i.op ∈ [Op.refresh, .refreshWait, .shutdown] → s.regs.frameValid = false →
    ∃ t : State, exec i s = .next t ∧ t.pending = s.pending)

/-- R190: for the all-zero bitmap every slot equals the blank slot, which every bitmap's odd slots show. -/
def Obligations.AllZeroBitmapGivesBlankSlots : Prop :=
  ∀ (pattern : Vector RowColBits 8) (route : Vector Route 16), (∀ p : Pos, route[p] ≠ .unresolved) →
    ∀ s t : Fin 16, t.val % 2 = 1 →
      (compile (generate (Vector.replicate 8 0)) route).1[s] = (compile pattern route).1[t]

/-- 41_pin_router.md R149, R168, R191, R239: the spec's examples of routes, patterns, W_EX frames and flipped W_EX
frames. -/
def Obligations.RoutePatternAndFrameExamples : Prop :=
  (let a : Wiring := { wexWiring with hardRc := #v[0, 1, 2, 3, 4, 5, 6, 8] }
   (buildRoutes a)[8] = .direct 9 ∧ (buildRoutes a)[7] = .unresolved ∧ dupClaim a = true ∧ uncovered a = true) ∧
  (let b : Wiring := { wexWiring with hardRc := #v[0, 0, 2, 3, 4, 5, 6, 7] }
   (buildRoutes b)[0] = .direct 2 ∧ (buildRoutes b)[1] = .unresolved ∧ dupClaim b = true ∧ uncovered b = true) ∧
  (let c : Wiring := { wexWiring with shiftN := 7 }
   (buildRoutes c)[15] = .unresolved ∧ uncovered c = true) ∧
  (generate #v[0, 0, 0, 0, 0, 0, 0, 0]).toList = List.replicate 8 0xFF00 ∧
  (generate #v[0xFF, 0xFF, 0xFF, 0xFF, 0xFF, 0xFF, 0xFF, 0xFF]).toList =
    [0x7FFF, 0xBFFF, 0xDFFF, 0xEFFF, 0xF7FF, 0xFBFF, 0xFDFF, 0xFEFF] ∧
  (generate #v[0x80, 0, 0, 0, 0, 0, 0, 0]).toList = List.replicate 7 0xFF00 ++ [0xFE80] ∧
  (generate #v[0x01, 0x02, 0x04, 0x08, 0x10, 0x20, 0x40, 0x80]).toList =
    [0x7F80, 0xBF40, 0xDF20, 0xEF10, 0xF708, 0xFB04, 0xFD02, 0xFE01] ∧
  (generate #v[0, 0, 0, 0x5A, 0, 0, 0, 0]).toList =
    List.replicate 4 0xFF00 ++ [0xF75A] ++ List.replicate 3 0xFF00 ∧
  frameOf wexWiring #v[0, 0, 0, 0, 0, 0, 0, 0] = List.replicate 16 (0, 0, 0xFF) ∧
  frameOf wexWiring #v[0xFF, 0xFF, 0xFF, 0xFF, 0xFF, 0xFF, 0xFF, 0xFF] =
    interleaved (0, 0, 0xFF) [(0xFC, 3, 0x7F), (0xFC, 3, 0xBF), (0xFC, 3, 0xDF), (0xFC, 3, 0xEF),
      (0xFC, 3, 0xF7), (0xFC, 3, 0xFB), (0xFC, 3, 0xFD), (0xFC, 3, 0xFE)] ∧
  frameOf wexWiring #v[0x80, 0, 0, 0, 0, 0, 0, 0] =
    interleaved (0, 0, 0xFF) (List.replicate 7 (0, 0, 0xFF) ++ [(0, 2, 0xFE)]) ∧
  frameOf wexWiring #v[0x01, 0x02, 0x04, 0x08, 0x10, 0x20, 0x40, 0x80] =
    interleaved (0, 0, 0xFF) [(0, 2, 0x7F), (0, 1, 0xBF), (0x80, 0, 0xDF), (0x40, 0, 0xEF),
      (0x20, 0, 0xF7), (0x10, 0, 0xFB), (0x08, 0, 0xFD), (0x04, 0, 0xFE)] ∧
  frameOf wexWiring #v[0, 0, 0, 0x5A, 0, 0, 0, 0] =
    interleaved (0, 0, 0xFF) (List.replicate 4 (0, 0, 0xFF) ++ [(0x68, 1, 0xF7)] ++ List.replicate 3 (0, 0, 0xFF)) ∧
  frameOf wexWiring.flipped #v[0, 0, 0, 0, 0, 0, 0, 0] = List.replicate 16 (0xFC, 3, 0) ∧
  frameOf wexWiring.flipped #v[0x80, 0, 0, 0, 0, 0, 0, 0] =
    interleaved (0xFC, 3, 0) (List.replicate 7 (0xFC, 3, 0) ++ [(0xF8, 3, 1)]) ∧
  frameOf wexWiring.flipped #v[0xFF, 0xFF, 0xFF, 0xFF, 0xFF, 0xFF, 0xFF, 0xFF] =
    interleaved (0xFC, 3, 0) [(0xFC, 1, 0xFF), (0xFC, 2, 0xFF), (0x7C, 3, 0xFF), (0xBC, 3, 0xFF),
      (0xDC, 3, 0xFF), (0xEC, 3, 0xFF), (0xF4, 3, 0xFF), (0xF8, 3, 0xFF)]

/-! ## Acceptance, exceptions, who writes what -/

/-- 40_lifecycle.md R110, 60_exceptions.md R251: outside its phases a command only sets ERR_STATE; inside them it does not
set it, and in READY it clears FRESH. -/
def Obligations.PhaseAcceptanceTable : Prop :=
  ∀ (i : Instr) (s : State),
    (¬ acceptedIn i.op s.regs → exec i s = .next (flagged 0x02 s)) ∧
    (acceptedIn i.op s.regs → ∀ t : State, exec i s = .next t →
      t.regs.status.getLsbD 1 = s.regs.status.getLsbD 1 ∧ (s.regs.phase = .ready → t.regs.fresh = false))

/-- R254: the acceptance checks in their order, each word reporting the first that fails; a word that passes runs its
command. -/
def Obligations.FirstFailingCheckIsReported : Prop :=
  ∀ (s : State) (w : CmdWord) (rest : List Input), s.pending = [] → s.inputs = .command w :: rest →
    ((∀ o : Op, ¬ inRow w o) → step s = .next (flagged 0x01 { s with inputs := rest })) ∧
    (∀ o : Op, inRow w o → ¬ acceptedIn o s.regs → step s = .next (flagged 0x02 { s with inputs := rest })) ∧
    (inRow w .cfgCounts → acceptedIn .cfgCounts s.regs →
      8 < (w.extractLsb' 0 4).toNat ∨ 8 < (w.extractLsb' 4 4).toNat →
      step s = .next (flagged 0x04 { s with inputs := rest })) ∧
    (∀ o : Op, inRow w o → acceptedIn o s.regs →
      ∃ i : Instr, encode i = w ∧ i.op = o ∧ step s = exec i { s with inputs := rest })

/-- 10_state.md R23: CONSTRUCT sets FRESH; every other command accepted in READY clears it; every other command, accepted or
rejected, keeps it; and no step but these commands and reset changes it. -/
def Obligations.FreshMarksConstruct : Prop :=
  (∀ (i : Instr) (s t : State), exec i s = .next t →
    (i.op = .construct → acceptedIn i.op s.regs → t.regs.fresh = true) ∧
    (i.op ≠ .construct → acceptedIn i.op s.regs → s.regs.phase = .ready → t.regs.fresh = false) ∧
    (¬ (acceptedIn i.op s.regs ∧ (i.op = .construct ∨ s.regs.phase = .ready)) → t.regs.fresh = s.regs.fresh)) ∧
  (∀ s t : State, step s = .next t → s.inputs.head? ≠ some .reset → t.regs.fresh ≠ s.regs.fresh →
    ∃ w rest i, s.inputs = .command w :: rest ∧ s.pending = [] ∧ decode w = .ok i ∧
      acceptedIn i.op s.regs ∧ (i.op = .construct ∨ s.regs.phase = .ready))

/-- R40: which command writes which register, with the values the table gives; a STATUS bit is set only for its own cause
(60_exceptions.md R258) and never cleared; a command touches no field outside the registers but the events it presents. -/
def Obligations.OnlyTheListedCommandsWriteARegister : Prop :=
  ∀ (i : Instr) (s t : State), exec i s = .next t →
    (t.trace = s.trace ∧ t.inputs = s.inputs ∧ t.answers = s.answers ∧ t.env = s.env ∧ t.draws = s.draws ∧
      ∃ new : List Event, t.pending = s.pending ++ new) ∧
    (t.regs.phase ≠ s.regs.phase → i.op ∈ [Op.construct, .shutdown] ∨ t.regs.phase = .fault) ∧
    (t.regs.fresh ≠ s.regs.fresh →
      i.op = .construct ∧ t.regs.fresh = true ∨
        acceptedIn i.op s.regs ∧ s.regs.phase = .ready ∧ t.regs.fresh = false) ∧
    (t.regs.flipped ≠ s.regs.flipped →
      i.op = .construct ∧ t.regs.flipped = false ∨ i.op = .flip ∧ s.regs.wiring.hardN = s.regs.wiring.shiftN) ∧
    (t.regs.spWritten ≠ s.regs.spWritten → i.op = .cfgShiftPins ∧ t.regs.spWritten = true) ∧
    (t.regs.hpWritten ≠ s.regs.hpWritten → i.op = .cfgHardPins ∧ t.regs.hpWritten = true) ∧
    (t.regs.shiftPins ≠ s.regs.shiftPins → i.op = .cfgShiftPins) ∧
    (t.regs.wiring.hardPins ≠ s.regs.wiring.hardPins → i.op = .cfgHardPins) ∧
    (t.regs.wiring.hardRc ≠ s.regs.wiring.hardRc → i.op ∈ [Op.cfgHardRc, .flip]) ∧
    (t.regs.wiring.shiftRc ≠ s.regs.wiring.shiftRc → i.op ∈ [Op.cfgShiftRc, .flip]) ∧
    (t.regs.wiring.shiftOff ≠ s.regs.wiring.shiftOff → i.op ∈ [Op.cfgShiftOff, .flip]) ∧
    (t.regs.wiring.hardN ≠ s.regs.wiring.hardN ∨ t.regs.wiring.shiftN ≠ s.regs.wiring.shiftN → i.op = .cfgCounts) ∧
    (t.regs.pixels ≠ s.regs.pixels ∨ t.regs.pattern ≠ s.regs.pattern →
      i.op ∈ [Op.construct, .setPixels, .shutdown]) ∧
    (t.regs.route ≠ s.regs.route →
      i.op = .construct ∨ i.op = .flip ∧ s.regs.wiring.hardN = s.regs.wiring.shiftN) ∧
    (t.regs.frame ≠ s.regs.frame ∨ t.regs.frameValid ≠ s.regs.frameValid →
      i.op ∈ [Op.construct, .setPixels, .shutdown] ∨
        i.op = .flip ∧ s.regs.wiring.hardN = s.regs.wiring.shiftN) ∧
    (∀ k : Nat, s.regs.status.getLsbD k = true → t.regs.status.getLsbD k = true) ∧
    (∀ k : Nat, s.regs.status.getLsbD k = false → t.regs.status.getLsbD k = true → causedBy i s t k)

/-- R28, 60_exceptions.md R257: no command reads a STATUS bit; from any STATUS it does the same and sets the same bits. -/
def Obligations.StatusNeverSteersACommand : Prop :=
  ∀ (i : Instr) (s t : State) (x : BitVec 8), exec i s = .next t →
    ∃ d : BitVec 8, t.regs.status = s.regs.status ||| d ∧
      exec i { s with regs := { s.regs with status := x } } =
        .next { t with regs := { t.regs with status := x ||| d } }

/-- R41, R15: nothing the core does depends on the environment's state. -/
def Obligations.EnvironmentNeverSteersTheCore : Prop :=
  ∀ (s t : State) (e : Env) (n : Nat), step s = .next t →
    ∃ u : State, step { s with env := e, draws := n } = .next u ∧ sameCore t u

/-! ## Readback and the environment -/

/-- 20_memory.md R67, R68: the readback map, field by field; every unmapped address reads 0. -/
def Obligations.ReadbackMap : Prop :=
  ∀ r : Regs,
    ((readReg r 0x00).extractLsb' 0 8 = r.status ∧ (readReg r 0x00).extractLsb' 8 56 = 0) ∧
    ((readReg r 0x01).extractLsb' 0 2 =
        (match r.phase with | .unconfigured => 0 | .ready => 1 | .dead => 2 | .fault => 3) ∧
      (readReg r 0x01).getLsbD 2 = r.fresh ∧ (readReg r 0x01).getLsbD 3 = r.flipped ∧
      (readReg r 0x01).getLsbD 4 = r.frameValid ∧ (readReg r 0x01).getLsbD 5 = r.spWritten ∧
      (readReg r 0x01).getLsbD 6 = r.hpWritten ∧ (readReg r 0x01).extractLsb' 7 57 = 0) ∧
    ((readReg r 0x02).extractLsb' 0 8 = r.shiftPins.data ∧ (readReg r 0x02).extractLsb' 8 8 = r.shiftPins.sclk ∧
      (readReg r 0x02).extractLsb' 16 8 = r.shiftPins.latch ∧ (readReg r 0x02).extractLsb' 24 40 = 0) ∧
    (∀ i : Fin 8,
      (readReg r 0x03).extractLsb' (8 * i.val) 8 = r.wiring.hardPins[i] ∧
      (readReg r 0x04).extractLsb' (4 * i.val) 4 = r.wiring.hardRc[i] ∧
      (readReg r 0x05).extractLsb' (4 * i.val) 4 = r.wiring.shiftRc[i] ∧
      (readReg r 0x06).extractLsb' (4 * i.val) 3 = r.wiring.shiftOff[i] ∧
      (readReg r 0x06).getLsbD (4 * i.val + 3) = false ∧
      (readReg r 0x08).extractLsb' (8 * i.val) 8 = r.pixels[i]) ∧
    ((readReg r 0x04).extractLsb' 32 32 = 0 ∧ (readReg r 0x05).extractLsb' 32 32 = 0 ∧
      (readReg r 0x06).extractLsb' 32 32 = 0) ∧
    ((readReg r 0x07).extractLsb' 0 4 = r.wiring.hardN ∧ (readReg r 0x07).extractLsb' 4 4 = r.wiring.shiftN ∧
      (readReg r 0x07).extractLsb' 8 56 = 0) ∧
    (∀ p : Pos, (readReg r (BitVec.ofNat 8 (0x10 + p.val))).toNat =
      match r.route[p] with | .unresolved => 0 | .direct q => 0x100 + q.toNat | .shifted o => 0x200 + o.toNat) ∧
    (∀ k : Fin 8, (readReg r (BitVec.ofNat 8 (0x20 + k.val))).toNat = r.pattern[k].toNat) ∧
    (∀ s : Fin 16, (readReg r (BitVec.ofNat 8 (0x30 + s.val))).toNat =
      r.frame[s].lo.toNat + 2 ^ 8 * r.frame[s].hi.toNat + 2 ^ 16 * r.frame[s].sh.toNat +
        2 ^ 24 * r.frameValid.toNat) ∧
    readReg r 0x40 = 0x14C38 ∧
    (∀ a : BitVec 8, (0x09 ≤ a.toNat ∧ a.toNat ≤ 0x0F) ∨ (0x28 ≤ a.toNat ∧ a.toNat ≤ 0x2F) ∨ 0x41 ≤ a.toNat →
      readReg r a = 0)

/-- 60_exceptions.md R272 with 20_memory.md R62: what each event does to every pin's PORT and DDR bit, and what level a pin
shows. -/
def Obligations.GpioReferenceModel : Prop :=
  ∀ (e : Env) (p q : PinNum) (v : Bool) (g : Group) (b c : Byte) (us : BitVec 32),
    (ddrBit (e.gpio (.dirOut p)) q = (ddrBit e q || decide (samePinBit p q)) ∧
      portBit (e.gpio (.dirOut p)) q = portBit e q) ∧
    (portBit (e.gpio (.pin p v)) q = (if samePinBit p q then v else portBit e q) ∧
      ddrBit (e.gpio (.pin p v)) q = ddrBit e q) ∧
    (portBit (e.gpio (.group g b)) q = (if (g = .lo ↔ q.toNat < 8) then b.getLsbD (q.toNat % 8) else portBit e q) ∧
      ddrBit (e.gpio (.group g b)) q = ddrBit e q) ∧
    (e.gpio (.delay us) = e ∧ e.gpio (.diag c) = e) ∧
    e.level q = if ddrBit e q then some (portBit e q) else none

/-- R273: after one slot on distinct, driven control lines that start low, the shift register's buffer and outputs hold the
slot's shift byte, whatever they held, and no free bit was taken. -/
def Obligations.ShiftRegisterHoldsTheShiftByte : Prop :=
  ∀ (p : ShiftPins) (e : Env) (n : Nat) (sl : Slot),
    ([p.data, p.sclk, p.latch].map pinBit).Nodup →
    (∀ q ∈ [p.data, p.sclk, p.latch], e.drives q = true) →
    e.level p.sclk = some false → e.level p.latch = some false →
    let u := takeEvents p (e, n) ((emitSlot p sl).take 26)
    u.1.srBuf = sl.sh ∧ u.1.srOut = sl.sh ∧ u.2 = n

/-- R274: with collision-free wiring, after a slot every logical line shows its pattern bit, so exactly the LEDs the pattern
lights are lit; and the environment is ready for the next slot. In slot s of a compiled frame these are, for an even s, the
lit pixels of row 7 - s / 2, and for an odd s none. -/
def Obligations.SlotShowsItsPattern : Prop :=
  (∀ (pixels : Vector Byte 8) (s : Fin 16) (r c : Fin 8),
    litBy (scanPattern (generate pixels) s) r c = true ↔
      s.val % 2 = 0 ∧ r.val + s.val / 2 = 7 ∧ pixels[r].getLsbD c.val = true) ∧
  ∀ (p : ShiftPins) (w : Wiring) (e : Env) (n : Nat) (pat : RowColBits), collisionFree p w → slotStart p w e →
    let u := takeEvents p (e, n) (emitSlot p (compileSlot (buildRoutes w) pat))
    (∀ q : Pos, u.1.lineLevel (buildRoutes w)[q] = some (pat.getLsbD q.val)) ∧
    (∀ r c : Fin 8, u.1.ledLit (buildRoutes w) r c = litBy pat r c) ∧
    slotStart p w u.1

/-- 40_lifecycle.md R118, 70_reset_and_hazards.md R306: once CONSTRUCT's events are accepted the configured pins are outputs
that show the PORT bits they had; no level was driven and the shift register saw no edge (an undriven pin is at neither
level, log 9). -/
def Obligations.ConstructMakesItsPinsOutputs : Prop :=
  ∀ (r : Regs) (e : Env) (n : Nat),
    let u := takeEvents r.shiftPins (e, n) (constructEvents r)
    (∀ q ∈ [r.shiftPins.data, r.shiftPins.sclk, r.shiftPins.latch], u.1.level q = some (portBit e q)) ∧
    (∀ i : Fin 8, i.val < r.wiring.hardN.toNat →
      u.1.level r.wiring.hardPins[i] = some (portBit e r.wiring.hardPins[i])) ∧
    (∀ q : PinNum, portBit u.1 q = portBit e q) ∧
    u.1.srBuf = e.srBuf ∧ u.1.srOut = e.srOut ∧ u.2 = n

/-- R273, 93_implementation_defined.md U10, 70_reset_and_hazards.md R300: one event that raises the clock and changes the data
level shifts in a free bit at bit 7, a fresh one for every such event: any event that does so and does not raise the latch; a
PIN event where data and clock share a group bit; a GROUP write that raises the clock and changes the data bit beside it in the
same group. No equation names a value of the bit (log 8). -/
def Obligations.SharedClockAndDataShiftInAFreeBit : Prop :=
  ∀ (p : ShiftPins) (e : Env) (n : Nat), e.level p.sclk = some false →
    (∀ ev : Event, (e.gpio ev).level p.sclk = some true → (e.gpio ev).level p.data ≠ e.level p.data →
      ¬ (e.level p.latch = some false ∧ (e.gpio ev).level p.latch = some true) → shiftsInFreeBit p e n ev) ∧
    (samePinBit p.data p.sclk → ¬ samePinBit p.latch p.sclk → shiftsInFreeBit p e n (.pin p.sclk true)) ∧
    (∀ (g : Group) (b : Byte) (v : Bool), (g = .lo ↔ p.sclk.toNat < 8) → (g = .lo ↔ p.data.toNat < 8) →
      b.getLsbD (p.sclk.toNat % 8) = true → e.level p.data = some v → b.getLsbD (p.data.toNat % 8) = !v →
      (e.level p.latch = some false → (g = .lo ↔ p.latch.toNat < 8) → b.getLsbD (p.latch.toNat % 8) = false) →
      shiftsInFreeBit p e n (.group g b))

/-- R303: no ghosting. From an environment that shows the previous slot, after any number of the next slot's events, every
lit LED is lit by the previous slot's pattern or by the new one's, when one of the two is blank. -/
def Obligations.NoGhostingBetweenSlots : Prop :=
  ∀ (p : ShiftPins) (w : Wiring) (e : Env) (n k : Nat) (prev pat : RowColBits), collisionFree p w → slotStart p w e →
    (∀ q : Pos, e.lineLevel (buildRoutes w)[q] = some (prev.getLsbD q.val)) → (prev = 0xFF00 ∨ pat = 0xFF00) →
    let u := takeEvents p (e, n) ((emitSlot p (compileSlot (buildRoutes w) pat)).take k)
    ∀ r c : Fin 8, u.1.ledLit (buildRoutes w) r c = true → litBy prev r c = true ∨ litBy pat r c = true

/-! ## The invariant -/

/-- R39, R34: the state after reset meets the invariant. -/
def Obligations.ResetMeetsTheInvariant : Prop := Inv State.reset

/-- R39, R34, R23, R255, R110: every step from a state that meets the invariant gives a state that meets it. The clause that
events are presented only in READY or DEAD is the model's choice, not the spec's: it rests on the registers being written at
acceptance, before the events are accepted (log 1, which R61 allows), where R117 emits its events before PHASE <- READY. -/
def Obligations.StepKeepsTheInvariant : Prop := ∀ s t : State, Inv s → step s = .next t → Inv t
end

