-- ==== Sys2Proof/Laws/PerInstr.lean ====
section
/-!
SUPPORT. What holds of every command as syntax, one lemma per constructor: its word lies in its own row of the opcode
table (30_encoding.md R82).
-/
namespace Sys2Proof.Laws.EncodeRow

/-- The command's word matches the row of its command: (word & mask) == match (R82). -/
def Statement (i : Instr) : Prop := encode i &&& i.op.maskWord = i.op.matchWord

/-- The mask of a row keeps the opcode and the reserved bits. -/
theorem mkWord_and_mask (o : BitVec 8) (p r : Payload) (h : p &&& r = 0) :
    mkWord o p &&& mkWord 0xFF r = mkWord o 0 :=
  BitVec.and_append.trans (by rw [h]; exact congrArg (· ++ (0 : Payload)) (BitVec.and_allOnes (x := o)))

/-- A payload without reserved bits puts the word in its row. -/
theorem of_reserved_zero (i : Instr) (h : encodePayload i &&& i.op.format.reserved = 0) : Statement i :=
  mkWord_and_mask _ _ _ h

theorem cfgShiftPins (data sclk latch : PinNum) : Statement (.cfgShiftPins data sclk latch) := by
  apply of_reserved_zero
  apply BitVec.eq_of_getLsbD_eq
  intro k hk
  simp only [encodePayload, Instr.op, Op.format, Format.reserved, BitVec.getLsbD_and, BitVec.getLsbD_append]
  interval_cases k <;> simp

theorem cfgHardPins (pins : Vector PinNum 8) : Statement (.cfgHardPins pins) :=
  of_reserved_zero _ (by simp [Instr.op, Op.format, Format.reserved])

theorem packNib8_reserved (q : Vector PosField 8) : packNib8 q &&& Format.nib8.reserved = 0 := by
  apply BitVec.eq_of_getLsbD_eq
  intro k hk
  simp only [packNib8, Format.reserved, BitVec.getLsbD_and, BitVec.getLsbD_append]
  interval_cases k <;> simp

theorem cfgHardRc (rc : Vector PosField 8) : Statement (.cfgHardRc rc) := of_reserved_zero _ (packNib8_reserved rc)

theorem cfgShiftRc (rc : Vector PosField 8) : Statement (.cfgShiftRc rc) := of_reserved_zero _ (packNib8_reserved rc)

theorem packOff8_reserved (o : Vector Offset 8) : packOff8 o &&& Format.off8.reserved = 0 := by
  apply BitVec.eq_of_getLsbD_eq
  intro k hk
  simp only [packOff8, Format.reserved, BitVec.getLsbD_and, BitVec.getLsbD_append]
  interval_cases k <;> simp

theorem cfgShiftOff (off : Vector Offset 8) : Statement (.cfgShiftOff off) := of_reserved_zero _ (packOff8_reserved off)

theorem cfgCounts (hn sn : Count) : Statement (.cfgCounts hn sn) := by
  apply of_reserved_zero
  apply BitVec.eq_of_getLsbD_eq
  intro k hk
  simp only [encodePayload, Instr.op, Op.format, Format.reserved, BitVec.getLsbD_and, BitVec.getLsbD_append]
  interval_cases k <;> simp

theorem construct (rows : Vector Byte 8) : Statement (.construct rows) :=
  of_reserved_zero _ (by simp [Instr.op, Op.format, Format.reserved])

theorem flip : Statement .flip := of_reserved_zero _ (by decide)

theorem setPixels (rows : Vector Byte 8) : Statement (.setPixels rows) :=
  of_reserved_zero _ (by simp [Instr.op, Op.format, Format.reserved])

theorem refresh : Statement .refresh := of_reserved_zero _ (by decide)

theorem refreshWait (us : BitVec 32) : Statement (.refreshWait us) := by
  apply of_reserved_zero
  apply BitVec.eq_of_getLsbD_eq
  intro k hk
  simp only [encodePayload, Instr.op, Op.format, Format.reserved, BitVec.getLsbD_and, BitVec.getLsbD_append]
  interval_cases k <;> simp

theorem shutdown : Statement .shutdown := of_reserved_zero _ (by decide)

end Sys2Proof.Laws.EncodeRow
end

