-- ==== Sys2Proof/Laws/Decode.lean ====
section
/-!
SUPPORT. The pieces of a command word: what the word's two parts are, which command an opcode selects, and that each packed
field is read back from where it was put (30_encoding.md R80 to R83, 20_memory.md R65).
-/
namespace Sys2Proof

@[simp] theorem opcOf_mkWord (o : BitVec 8) (p : Payload) : opcOf (mkWord o p) = o := by
  unfold opcOf mkWord
  apply BitVec.eq_of_getLsbD_eq
  intro k hk
  rw [BitVec.getLsbD_extractLsb', BitVec.getLsbD_append]
  simp [hk]

@[simp] theorem payloadOf_mkWord (o : BitVec 8) (p : Payload) : payloadOf (mkWord o p) = p := by
  unfold payloadOf mkWord
  apply BitVec.eq_of_getLsbD_eq
  intro k hk
  rw [BitVec.getLsbD_extractLsb', BitVec.getLsbD_append]
  simp [hk]

/-- A word is its two parts. -/
theorem mkWord_opcOf_payloadOf (w : CmdWord) : mkWord (opcOf w) (payloadOf w) = w := by
  unfold opcOf payloadOf mkWord
  apply BitVec.eq_of_getLsbD_eq
  intro k hk
  rw [BitVec.getLsbD_append]
  by_cases h : k < 64
  · simp [h]
  · have h8 : k - 64 < 8 := by omega
    rw [if_neg h, BitVec.getLsbD_extractLsb', Nat.add_sub_cancel' (by omega)]
    simp only [h8, decide_true, Bool.true_and]

@[simp] theorem opOfOpcode_opcode (o : Op) : opOfOpcode o.opcode = some o := by cases o <;> decide

theorem opcode_of_opOfOpcode {b : BitVec 8} {o : Op} (h : opOfOpcode b = some o) : o.opcode = b := by
  have := List.find?_some h
  simpa using this

/-- A word decodes exactly when its opcode selects a command and the payload has no reserved bit of its format (R254). -/
theorem decode_eq_ok {w : CmdWord} {i : Instr} :
    decode w = .ok i ↔
      ∃ o, opOfOpcode (opcOf w) = some o ∧ payloadOf w &&& o.format.reserved = 0 ∧ instrOf o (payloadOf w) = i := by
  unfold decode
  cases opOfOpcode (opcOf w) with
  | none => simp
  | some o =>
    by_cases h : payloadOf w &&& o.format.reserved = 0
    · simp only [if_pos h, Except.ok.injEq, Option.some.injEq]
      exact ⟨fun hi => ⟨o, rfl, h, hi⟩, by rintro ⟨_, rfl, _, hi⟩; exact hi⟩
    · simp only [if_neg h, reduceCtorEq, Option.some.injEq, false_iff]
      rintro ⟨_, rfl, hr, _⟩
      exact h hr

@[simp] theorem instrOf_op (o : Op) (p : Payload) : (instrOf o p).op = o := by cases o <;> rfl

/-! ## Packed fields -/

theorem byteField_packBytes8 (b : Vector Byte 8) (i : Fin 8) : byteField (packBytes8 b) i.val = b[i] := by
  apply BitVec.eq_of_getLsbD_eq
  intro k hk
  fin_cases i <;> simp only [byteField, packBytes8, BitVec.getLsbD_extractLsb', BitVec.getLsbD_append, hk] <;>
    interval_cases k <;> simp

theorem nibbleField_packNib8 (q : Vector PosField 8) (i : Fin 8) : nibbleField (packNib8 q) i.val = q[i] := by
  apply BitVec.eq_of_getLsbD_eq
  intro k hk
  fin_cases i <;> simp only [nibbleField, packNib8, BitVec.getLsbD_extractLsb', BitVec.getLsbD_append, hk] <;>
    interval_cases k <;> simp

theorem offsetField_packOff8 (o : Vector Offset 8) (i : Fin 8) : offsetField (packOff8 o) i.val = o[i] := by
  apply BitVec.eq_of_getLsbD_eq
  intro k hk
  fin_cases i <;> simp only [offsetField, packOff8, BitVec.getLsbD_extractLsb', BitVec.getLsbD_append, hk] <;>
    interval_cases k <;> simp

@[simp] theorem bytes8Fields_packBytes8 (b : Vector Byte 8) : bytes8Fields (packBytes8 b) = b := by
  refine Vector.ext fun i hi => ?_
  simpa [bytes8Fields] using byteField_packBytes8 b ⟨i, hi⟩

@[simp] theorem nib8Fields_packNib8 (q : Vector PosField 8) : nib8Fields (packNib8 q) = q := by
  refine Vector.ext fun i hi => ?_
  simpa [nib8Fields] using nibbleField_packNib8 q ⟨i, hi⟩

@[simp] theorem off8Fields_packOff8 (o : Vector Offset 8) : off8Fields (packOff8 o) = o := by
  refine Vector.ext fun i hi => ?_
  simpa [off8Fields] using offsetField_packOff8 o ⟨i, hi⟩

end Sys2Proof
end

