-- ==== Sys2Proof/Laws/Environment.lean ====
section
/-!
SUPPORT. The reference environment, said once: sequences of events one after another, what a logical line shows without the
open order of the shift register's outputs, and which events touch the shift register at all.
-/
namespace Sys2Proof.Machine

@[simp] theorem takeEvents_nil (p : ShiftPins) (en : Env × Nat) : takeEvents p en [] = en := rfl

@[simp] theorem takeEvents_cons (p : ShiftPins) (en : Env × Nat) (ev : Event) (evs : List Event) :
    takeEvents p en (ev :: evs) = takeEvents p (takeEvent p en ev) evs := rfl

theorem takeEvents_append (p : ShiftPins) (en : Env × Nat) (xs ys : List Event) :
    takeEvents p en (xs ++ ys) = takeEvents p (takeEvents p en xs) ys := List.foldl_append

/-- The output that carries an offset shows that bit of SR_OUT, whatever SR_ORDER is (60_exceptions.md R273). -/
@[simp] theorem parallelOut_outputCarrying (e : Env) (o : Offset) :
    e.parallelOut (outputCarrying o) = e.srOut.getLsbD o.toNat := by
  simp [Env.parallelOut, outputCarrying]

/-- What a logical line shows, by its route (R274). -/
theorem lineLevel_eq (e : Env) (rt : Route) :
    e.lineLevel rt =
      match rt with
      | .unresolved => none
      | .direct pin => e.level pin
      | .shifted o => some (e.srOut.getLsbD o.toNat) := by
  cases rt <;> simp [Env.lineLevel]

/-- The new bit enters at bit 7 and every other bit moves down one place (R273). -/
theorem shiftIn_getLsbD (buf : Byte) (v : Bool) (k : Nat) :
    (shiftIn buf v).getLsbD k = if k = 7 then v else buf.getLsbD (k + 1) := by
  unfold shiftIn
  rw [BitVec.getLsbD_append, BitVec.getLsbD_extractLsb', Nat.add_comm 1 k]
  by_cases h : k < 7
  · simp [h, Nat.ne_of_lt h]
  · by_cases h7 : k = 7
    · subst h7; simp
    · rw [if_neg h, if_neg h7, BitVec.getLsbD_of_ge buf (k + 1) (by omega), BitVec.getLsbD_of_ge _ _ (by omega)]

/-- No shift-control edge: the shift register keeps its buffer and its outputs, and no free bit is taken (R273). -/
theorem shiftRegister_of_no_edge {x : Edges} (hc : x.clock = false) (hl : x.latch = false) (e : Env) (n : Nat) :
    e.shiftRegister x n = e ∧ drawsAfter x n = n := by
  simp [Env.shiftRegister, drawsAfter, hc, hl]

/-- A GPIO change never touches the shift register's fields itself (R272). -/
@[simp] theorem gpio_shiftRegister (e : Env) (ev : Event) : (e.gpio ev).srBuf = e.srBuf ∧ (e.gpio ev).srOut = e.srOut := by
  cases ev with
  | dirOut p => cases h : groupOf p <;> simp [Env.gpio, Env.setDdr, h]
  | pin p v => cases h : groupOf p <;> simp [Env.gpio, Env.setPort, h]
  | group g b => cases g <;> simp [Env.gpio, Env.setPort]
  | delay us => simp [Env.gpio]
  | diag c => simp [Env.gpio]

end Sys2Proof.Machine
end

