-- ==== Sys2Proof/Laws/State.lean ====
section
/-!
SUPPORT. The small lemmas of the register and state updates: one per field per update, each true by rfl, so that no later
proof unfolds a record update.
-/
namespace Sys2Proof.Machine

/-! ## Registers -/

@[simp] theorem Regs.setStatus_phase (c : Cause) (r : Regs) : (r.setStatus c).phase = r.phase := rfl
@[simp] theorem Regs.setStatus_fresh (c : Cause) (r : Regs) : (r.setStatus c).fresh = r.fresh := rfl
@[simp] theorem Regs.setStatus_flipped (c : Cause) (r : Regs) : (r.setStatus c).flipped = r.flipped := rfl
@[simp] theorem Regs.setStatus_spWritten (c : Cause) (r : Regs) : (r.setStatus c).spWritten = r.spWritten := rfl
@[simp] theorem Regs.setStatus_hpWritten (c : Cause) (r : Regs) : (r.setStatus c).hpWritten = r.hpWritten := rfl
@[simp] theorem Regs.setStatus_frameValid (c : Cause) (r : Regs) : (r.setStatus c).frameValid = r.frameValid := rfl
@[simp] theorem Regs.setStatus_status (c : Cause) (r : Regs) : (r.setStatus c).status = r.status ||| c.mask := rfl
@[simp] theorem Regs.setStatus_shiftPins (c : Cause) (r : Regs) : (r.setStatus c).shiftPins = r.shiftPins := rfl
@[simp] theorem Regs.setStatus_wiring (c : Cause) (r : Regs) : (r.setStatus c).wiring = r.wiring := rfl
@[simp] theorem Regs.setStatus_pixels (c : Cause) (r : Regs) : (r.setStatus c).pixels = r.pixels := rfl
@[simp] theorem Regs.setStatus_pattern (c : Cause) (r : Regs) : (r.setStatus c).pattern = r.pattern := rfl
@[simp] theorem Regs.setStatus_route (c : Cause) (r : Regs) : (r.setStatus c).route = r.route := rfl
@[simp] theorem Regs.setStatus_frame (c : Cause) (r : Regs) : (r.setStatus c).frame = r.frame := rfl

@[simp] theorem Regs.takeFault_phase (c : Cause) (r : Regs) : (r.takeFault c).phase = .fault := rfl
@[simp] theorem Regs.takeFault_fresh (c : Cause) (r : Regs) : (r.takeFault c).fresh = r.fresh := rfl
@[simp] theorem Regs.takeFault_flipped (c : Cause) (r : Regs) : (r.takeFault c).flipped = r.flipped := rfl
@[simp] theorem Regs.takeFault_spWritten (c : Cause) (r : Regs) : (r.takeFault c).spWritten = r.spWritten := rfl
@[simp] theorem Regs.takeFault_hpWritten (c : Cause) (r : Regs) : (r.takeFault c).hpWritten = r.hpWritten := rfl
@[simp] theorem Regs.takeFault_frameValid (c : Cause) (r : Regs) : (r.takeFault c).frameValid = r.frameValid := rfl
@[simp] theorem Regs.takeFault_status (c : Cause) (r : Regs) : (r.takeFault c).status = r.status ||| c.mask := rfl
@[simp] theorem Regs.takeFault_shiftPins (c : Cause) (r : Regs) : (r.takeFault c).shiftPins = r.shiftPins := rfl
@[simp] theorem Regs.takeFault_wiring (c : Cause) (r : Regs) : (r.takeFault c).wiring = r.wiring := rfl
@[simp] theorem Regs.takeFault_pixels (c : Cause) (r : Regs) : (r.takeFault c).pixels = r.pixels := rfl
@[simp] theorem Regs.takeFault_pattern (c : Cause) (r : Regs) : (r.takeFault c).pattern = r.pattern := rfl
@[simp] theorem Regs.takeFault_route (c : Cause) (r : Regs) : (r.takeFault c).route = r.route := rfl
@[simp] theorem Regs.takeFault_frame (c : Cause) (r : Regs) : (r.takeFault c).frame = r.frame := rfl

@[simp] theorem Regs.clearFresh_phase (r : Regs) : (r.clearFresh).phase = r.phase := rfl
@[simp] theorem Regs.clearFresh_fresh (r : Regs) : (r.clearFresh).fresh = false := rfl
@[simp] theorem Regs.clearFresh_flipped (r : Regs) : (r.clearFresh).flipped = r.flipped := rfl
@[simp] theorem Regs.clearFresh_spWritten (r : Regs) : (r.clearFresh).spWritten = r.spWritten := rfl
@[simp] theorem Regs.clearFresh_hpWritten (r : Regs) : (r.clearFresh).hpWritten = r.hpWritten := rfl
@[simp] theorem Regs.clearFresh_frameValid (r : Regs) : (r.clearFresh).frameValid = r.frameValid := rfl
@[simp] theorem Regs.clearFresh_status (r : Regs) : (r.clearFresh).status = r.status := rfl
@[simp] theorem Regs.clearFresh_shiftPins (r : Regs) : (r.clearFresh).shiftPins = r.shiftPins := rfl
@[simp] theorem Regs.clearFresh_wiring (r : Regs) : (r.clearFresh).wiring = r.wiring := rfl
@[simp] theorem Regs.clearFresh_pixels (r : Regs) : (r.clearFresh).pixels = r.pixels := rfl
@[simp] theorem Regs.clearFresh_pattern (r : Regs) : (r.clearFresh).pattern = r.pattern := rfl
@[simp] theorem Regs.clearFresh_route (r : Regs) : (r.clearFresh).route = r.route := rfl
@[simp] theorem Regs.clearFresh_frame (r : Regs) : (r.clearFresh).frame = r.frame := rfl

@[simp] theorem Regs.mapWiring_phase (f : Wiring → Wiring) (r : Regs) : (r.mapWiring f).phase = r.phase := rfl
@[simp] theorem Regs.mapWiring_fresh (f : Wiring → Wiring) (r : Regs) : (r.mapWiring f).fresh = r.fresh := rfl
@[simp] theorem Regs.mapWiring_flipped (f : Wiring → Wiring) (r : Regs) : (r.mapWiring f).flipped = r.flipped := rfl
@[simp] theorem Regs.mapWiring_spWritten (f : Wiring → Wiring) (r : Regs) : (r.mapWiring f).spWritten = r.spWritten := rfl
@[simp] theorem Regs.mapWiring_hpWritten (f : Wiring → Wiring) (r : Regs) : (r.mapWiring f).hpWritten = r.hpWritten := rfl
@[simp] theorem Regs.mapWiring_frameValid (f : Wiring → Wiring) (r : Regs) : (r.mapWiring f).frameValid = r.frameValid := rfl
@[simp] theorem Regs.mapWiring_status (f : Wiring → Wiring) (r : Regs) : (r.mapWiring f).status = r.status := rfl
@[simp] theorem Regs.mapWiring_shiftPins (f : Wiring → Wiring) (r : Regs) : (r.mapWiring f).shiftPins = r.shiftPins := rfl
@[simp] theorem Regs.mapWiring_wiring (f : Wiring → Wiring) (r : Regs) : (r.mapWiring f).wiring = f r.wiring := rfl
@[simp] theorem Regs.mapWiring_pixels (f : Wiring → Wiring) (r : Regs) : (r.mapWiring f).pixels = r.pixels := rfl
@[simp] theorem Regs.mapWiring_pattern (f : Wiring → Wiring) (r : Regs) : (r.mapWiring f).pattern = r.pattern := rfl
@[simp] theorem Regs.mapWiring_route (f : Wiring → Wiring) (r : Regs) : (r.mapWiring f).route = r.route := rfl
@[simp] theorem Regs.mapWiring_frame (f : Wiring → Wiring) (r : Regs) : (r.mapWiring f).frame = r.frame := rfl

@[simp] theorem Regs.recompile_phase (r : Regs) : (r.recompile).phase = r.phase := rfl
@[simp] theorem Regs.recompile_fresh (r : Regs) : (r.recompile).fresh = r.fresh := rfl
@[simp] theorem Regs.recompile_flipped (r : Regs) : (r.recompile).flipped = r.flipped := rfl
@[simp] theorem Regs.recompile_spWritten (r : Regs) : (r.recompile).spWritten = r.spWritten := rfl
@[simp] theorem Regs.recompile_hpWritten (r : Regs) : (r.recompile).hpWritten = r.hpWritten := rfl
@[simp] theorem Regs.recompile_frameValid (r : Regs) : (r.recompile).frameValid = (compile r.pattern r.route).2 := rfl
@[simp] theorem Regs.recompile_status (r : Regs) : (r.recompile).status = r.status := rfl
@[simp] theorem Regs.recompile_shiftPins (r : Regs) : (r.recompile).shiftPins = r.shiftPins := rfl
@[simp] theorem Regs.recompile_wiring (r : Regs) : (r.recompile).wiring = r.wiring := rfl
@[simp] theorem Regs.recompile_pixels (r : Regs) : (r.recompile).pixels = r.pixels := rfl
@[simp] theorem Regs.recompile_pattern (r : Regs) : (r.recompile).pattern = r.pattern := rfl
@[simp] theorem Regs.recompile_route (r : Regs) : (r.recompile).route = r.route := rfl
@[simp] theorem Regs.recompile_frame (r : Regs) : (r.recompile).frame = (compile r.pattern r.route).1 := rfl

@[simp] theorem Regs.setPixels_phase (rows : Vector Byte 8) (r : Regs) : (r.setPixels rows).phase = r.phase := rfl
@[simp] theorem Regs.setPixels_fresh (rows : Vector Byte 8) (r : Regs) : (r.setPixels rows).fresh = r.fresh := rfl
@[simp] theorem Regs.setPixels_flipped (rows : Vector Byte 8) (r : Regs) : (r.setPixels rows).flipped = r.flipped := rfl
@[simp] theorem Regs.setPixels_spWritten (rows : Vector Byte 8) (r : Regs) : (r.setPixels rows).spWritten = r.spWritten := rfl
@[simp] theorem Regs.setPixels_hpWritten (rows : Vector Byte 8) (r : Regs) : (r.setPixels rows).hpWritten = r.hpWritten := rfl
@[simp] theorem Regs.setPixels_frameValid (rows : Vector Byte 8) (r : Regs) : (r.setPixels rows).frameValid = (compile (generate rows) r.route).2 := rfl
@[simp] theorem Regs.setPixels_status (rows : Vector Byte 8) (r : Regs) : (r.setPixels rows).status = r.status := rfl
@[simp] theorem Regs.setPixels_shiftPins (rows : Vector Byte 8) (r : Regs) : (r.setPixels rows).shiftPins = r.shiftPins := rfl
@[simp] theorem Regs.setPixels_wiring (rows : Vector Byte 8) (r : Regs) : (r.setPixels rows).wiring = r.wiring := rfl
@[simp] theorem Regs.setPixels_pixels (rows : Vector Byte 8) (r : Regs) : (r.setPixels rows).pixels = rows := rfl
@[simp] theorem Regs.setPixels_pattern (rows : Vector Byte 8) (r : Regs) : (r.setPixels rows).pattern = generate rows := rfl
@[simp] theorem Regs.setPixels_route (rows : Vector Byte 8) (r : Regs) : (r.setPixels rows).route = r.route := rfl
@[simp] theorem Regs.setPixels_frame (rows : Vector Byte 8) (r : Regs) : (r.setPixels rows).frame = (compile (generate rows) r.route).1 := rfl

@[simp] theorem Regs.setStatusIf_phase (b : Bool) (c : Cause) (r : Regs) : (r.setStatusIf b c).phase = r.phase := by
  cases b <;> rfl
@[simp] theorem Regs.setStatusIf_fresh (b : Bool) (c : Cause) (r : Regs) : (r.setStatusIf b c).fresh = r.fresh := by
  cases b <;> rfl
@[simp] theorem Regs.setStatusIf_flipped (b : Bool) (c : Cause) (r : Regs) : (r.setStatusIf b c).flipped = r.flipped := by
  cases b <;> rfl
@[simp] theorem Regs.setStatusIf_spWritten (b : Bool) (c : Cause) (r : Regs) : (r.setStatusIf b c).spWritten = r.spWritten := by
  cases b <;> rfl
@[simp] theorem Regs.setStatusIf_hpWritten (b : Bool) (c : Cause) (r : Regs) : (r.setStatusIf b c).hpWritten = r.hpWritten := by
  cases b <;> rfl
@[simp] theorem Regs.setStatusIf_frameValid (b : Bool) (c : Cause) (r : Regs) : (r.setStatusIf b c).frameValid = r.frameValid := by
  cases b <;> rfl
@[simp] theorem Regs.setStatusIf_status (b : Bool) (c : Cause) (r : Regs) :
    (r.setStatusIf b c).status = r.status ||| (if b then c.mask else 0) := by cases b <;> simp [Regs.setStatusIf]
@[simp] theorem Regs.setStatusIf_shiftPins (b : Bool) (c : Cause) (r : Regs) : (r.setStatusIf b c).shiftPins = r.shiftPins := by
  cases b <;> rfl
@[simp] theorem Regs.setStatusIf_wiring (b : Bool) (c : Cause) (r : Regs) : (r.setStatusIf b c).wiring = r.wiring := by
  cases b <;> rfl
@[simp] theorem Regs.setStatusIf_pixels (b : Bool) (c : Cause) (r : Regs) : (r.setStatusIf b c).pixels = r.pixels := by
  cases b <;> rfl
@[simp] theorem Regs.setStatusIf_pattern (b : Bool) (c : Cause) (r : Regs) : (r.setStatusIf b c).pattern = r.pattern := by
  cases b <;> rfl
@[simp] theorem Regs.setStatusIf_route (b : Bool) (c : Cause) (r : Regs) : (r.setStatusIf b c).route = r.route := by
  cases b <;> rfl
@[simp] theorem Regs.setStatusIf_frame (b : Bool) (c : Cause) (r : Regs) : (r.setStatusIf b c).frame = r.frame := by
  cases b <;> rfl

/-- The STATUS bits a route build sets (41_pin_router.md R145, R146). -/
def routeWarnings (w : Wiring) : BitVec 8 :=
  (if dupClaim w then Cause.warnDupClaim.mask else 0) ||| (if uncovered w then Cause.warnUncovered.mask else 0)

@[simp] theorem Regs.rebuildRoutes_phase (r : Regs) : r.rebuildRoutes.phase = r.phase := by
  simp [Regs.rebuildRoutes]
@[simp] theorem Regs.rebuildRoutes_fresh (r : Regs) : r.rebuildRoutes.fresh = r.fresh := by
  simp [Regs.rebuildRoutes]
@[simp] theorem Regs.rebuildRoutes_flipped (r : Regs) : r.rebuildRoutes.flipped = r.flipped := by
  simp [Regs.rebuildRoutes]
@[simp] theorem Regs.rebuildRoutes_spWritten (r : Regs) : r.rebuildRoutes.spWritten = r.spWritten := by
  simp [Regs.rebuildRoutes]
@[simp] theorem Regs.rebuildRoutes_hpWritten (r : Regs) : r.rebuildRoutes.hpWritten = r.hpWritten := by
  simp [Regs.rebuildRoutes]
@[simp] theorem Regs.rebuildRoutes_frameValid (r : Regs) : r.rebuildRoutes.frameValid = r.frameValid := by
  simp [Regs.rebuildRoutes]
@[simp] theorem Regs.rebuildRoutes_status (r : Regs) :
    r.rebuildRoutes.status = r.status ||| routeWarnings r.wiring := by
  simp [Regs.rebuildRoutes, routeWarnings, BitVec.or_assoc]
@[simp] theorem Regs.rebuildRoutes_shiftPins (r : Regs) : r.rebuildRoutes.shiftPins = r.shiftPins := by
  simp [Regs.rebuildRoutes]
@[simp] theorem Regs.rebuildRoutes_wiring (r : Regs) : r.rebuildRoutes.wiring = r.wiring := by
  simp [Regs.rebuildRoutes]
@[simp] theorem Regs.rebuildRoutes_pixels (r : Regs) : r.rebuildRoutes.pixels = r.pixels := by
  simp [Regs.rebuildRoutes]
@[simp] theorem Regs.rebuildRoutes_pattern (r : Regs) : r.rebuildRoutes.pattern = r.pattern := by
  simp [Regs.rebuildRoutes]
@[simp] theorem Regs.rebuildRoutes_route (r : Regs) : r.rebuildRoutes.route = buildRoutes r.wiring := by
  simp [Regs.rebuildRoutes]
@[simp] theorem Regs.rebuildRoutes_frame (r : Regs) : r.rebuildRoutes.frame = r.frame := by
  simp [Regs.rebuildRoutes]

@[simp] theorem Regs.flip_phase (r : Regs) : r.flip.phase = r.phase := by simp [Regs.flip]
@[simp] theorem Regs.flip_fresh (r : Regs) : r.flip.fresh = r.fresh := by simp [Regs.flip]
@[simp] theorem Regs.flip_flipped (r : Regs) : r.flip.flipped = !r.flipped := by simp [Regs.flip]
@[simp] theorem Regs.flip_spWritten (r : Regs) : r.flip.spWritten = r.spWritten := by simp [Regs.flip]
@[simp] theorem Regs.flip_hpWritten (r : Regs) : r.flip.hpWritten = r.hpWritten := by simp [Regs.flip]
@[simp] theorem Regs.flip_frameValid (r : Regs) : r.flip.frameValid = (compile r.pattern (buildRoutes r.wiring.flipped)).2 := by simp [Regs.flip]
@[simp] theorem Regs.flip_status (r : Regs) : r.flip.status = r.status ||| routeWarnings r.wiring.flipped := by simp [Regs.flip]
@[simp] theorem Regs.flip_shiftPins (r : Regs) : r.flip.shiftPins = r.shiftPins := by simp [Regs.flip]
@[simp] theorem Regs.flip_wiring (r : Regs) : r.flip.wiring = r.wiring.flipped := by simp [Regs.flip]
@[simp] theorem Regs.flip_pixels (r : Regs) : r.flip.pixels = r.pixels := by simp [Regs.flip]
@[simp] theorem Regs.flip_pattern (r : Regs) : r.flip.pattern = r.pattern := by simp [Regs.flip]
@[simp] theorem Regs.flip_route (r : Regs) : r.flip.route = buildRoutes r.wiring.flipped := by simp [Regs.flip]
@[simp] theorem Regs.flip_frame (r : Regs) : r.flip.frame = (compile r.pattern (buildRoutes r.wiring.flipped)).1 := by simp [Regs.flip]

@[simp] theorem Regs.construct_phase (rows : Vector Byte 8) (r : Regs) :
    (r.construct rows).phase = .ready := by simp [Regs.construct]
@[simp] theorem Regs.construct_fresh (rows : Vector Byte 8) (r : Regs) :
    (r.construct rows).fresh = true := by simp [Regs.construct]
@[simp] theorem Regs.construct_flipped (rows : Vector Byte 8) (r : Regs) :
    (r.construct rows).flipped = false := by simp [Regs.construct]
@[simp] theorem Regs.construct_spWritten (rows : Vector Byte 8) (r : Regs) :
    (r.construct rows).spWritten = r.spWritten := by simp [Regs.construct]
@[simp] theorem Regs.construct_hpWritten (rows : Vector Byte 8) (r : Regs) :
    (r.construct rows).hpWritten = r.hpWritten := by simp [Regs.construct]
@[simp] theorem Regs.construct_frameValid (rows : Vector Byte 8) (r : Regs) :
    (r.construct rows).frameValid = (compile (generate rows) (buildRoutes r.wiring)).2 := by simp [Regs.construct]
@[simp] theorem Regs.construct_status (rows : Vector Byte 8) (r : Regs) :
    (r.construct rows).status = r.status ||| routeWarnings r.wiring := by simp [Regs.construct]
@[simp] theorem Regs.construct_shiftPins (rows : Vector Byte 8) (r : Regs) :
    (r.construct rows).shiftPins = r.shiftPins := by simp [Regs.construct]
@[simp] theorem Regs.construct_wiring (rows : Vector Byte 8) (r : Regs) :
    (r.construct rows).wiring = r.wiring := by simp [Regs.construct]
@[simp] theorem Regs.construct_pixels (rows : Vector Byte 8) (r : Regs) :
    (r.construct rows).pixels = rows := by simp [Regs.construct]
@[simp] theorem Regs.construct_pattern (rows : Vector Byte 8) (r : Regs) :
    (r.construct rows).pattern = generate rows := by simp [Regs.construct]
@[simp] theorem Regs.construct_route (rows : Vector Byte 8) (r : Regs) :
    (r.construct rows).route = buildRoutes r.wiring := by simp [Regs.construct]
@[simp] theorem Regs.construct_frame (rows : Vector Byte 8) (r : Regs) :
    (r.construct rows).frame = (compile (generate rows) (buildRoutes r.wiring)).1 := by simp [Regs.construct]

/-! ## States -/

@[simp] theorem State.mapRegs_regs (f : Regs → Regs) (s : State) : (s.mapRegs f).regs = f s.regs := rfl
@[simp] theorem State.mapRegs_pending (f : Regs → Regs) (s : State) : (s.mapRegs f).pending = s.pending := rfl
@[simp] theorem State.mapRegs_trace (f : Regs → Regs) (s : State) : (s.mapRegs f).trace = s.trace := rfl
@[simp] theorem State.mapRegs_inputs (f : Regs → Regs) (s : State) : (s.mapRegs f).inputs = s.inputs := rfl
@[simp] theorem State.mapRegs_answers (f : Regs → Regs) (s : State) : (s.mapRegs f).answers = s.answers := rfl
@[simp] theorem State.mapRegs_env (f : Regs → Regs) (s : State) : (s.mapRegs f).env = s.env := rfl
@[simp] theorem State.mapRegs_draws (f : Regs → Regs) (s : State) : (s.mapRegs f).draws = s.draws := rfl

@[simp] theorem State.setStatus_regs (c : Cause) (s : State) : (s.setStatus c).regs = s.regs.setStatus c := rfl
@[simp] theorem State.setStatus_pending (c : Cause) (s : State) : (s.setStatus c).pending = s.pending := rfl
@[simp] theorem State.setStatus_trace (c : Cause) (s : State) : (s.setStatus c).trace = s.trace := rfl
@[simp] theorem State.setStatus_inputs (c : Cause) (s : State) : (s.setStatus c).inputs = s.inputs := rfl
@[simp] theorem State.setStatus_answers (c : Cause) (s : State) : (s.setStatus c).answers = s.answers := rfl
@[simp] theorem State.setStatus_env (c : Cause) (s : State) : (s.setStatus c).env = s.env := rfl
@[simp] theorem State.setStatus_draws (c : Cause) (s : State) : (s.setStatus c).draws = s.draws := rfl

@[simp] theorem State.emit_regs (es : List Event) (s : State) : (s.emit es).regs = s.regs := rfl
@[simp] theorem State.emit_pending (es : List Event) (s : State) : (s.emit es).pending = s.pending ++ es := rfl
@[simp] theorem State.emit_trace (es : List Event) (s : State) : (s.emit es).trace = s.trace := rfl
@[simp] theorem State.emit_inputs (es : List Event) (s : State) : (s.emit es).inputs = s.inputs := rfl
@[simp] theorem State.emit_answers (es : List Event) (s : State) : (s.emit es).answers = s.answers := rfl
@[simp] theorem State.emit_env (es : List Event) (s : State) : (s.emit es).env = s.env := rfl
@[simp] theorem State.emit_draws (es : List Event) (s : State) : (s.emit es).draws = s.draws := rfl

@[simp] theorem State.applyReset_regs (s : State) : (s.applyReset).regs = Regs.reset := rfl
@[simp] theorem State.applyReset_pending (s : State) : (s.applyReset).pending = [] := rfl
@[simp] theorem State.applyReset_trace (s : State) : (s.applyReset).trace = s.trace := rfl
@[simp] theorem State.applyReset_inputs (s : State) : (s.applyReset).inputs = s.inputs := rfl
@[simp] theorem State.applyReset_answers (s : State) : (s.applyReset).answers = s.answers := rfl
@[simp] theorem State.applyReset_env (s : State) : (s.applyReset).env = s.env := rfl
@[simp] theorem State.applyReset_draws (s : State) : (s.applyReset).draws = s.draws := rfl

@[simp] theorem State.drain_regs (s : State) : (s.drain).regs = s.regs := rfl
@[simp] theorem State.drain_pending (s : State) : (s.drain).pending = [] := rfl
@[simp] theorem State.drain_trace (s : State) : (s.drain).trace = s.trace ++ s.pending := rfl
@[simp] theorem State.drain_inputs (s : State) : (s.drain).inputs = s.inputs := rfl
@[simp] theorem State.drain_answers (s : State) : (s.drain).answers = s.answers := rfl
@[simp] theorem State.drain_env (s : State) : (s.drain).env = (takeEvents s.regs.shiftPins (s.env, s.draws) s.pending).1 := rfl
@[simp] theorem State.drain_draws (s : State) : (s.drain).draws = (takeEvents s.regs.shiftPins (s.env, s.draws) s.pending).2 := rfl

@[simp] theorem answerRead_regs (a : BitVec 8) (s : State) : (answerRead a s).regs = s.regs := rfl
@[simp] theorem answerRead_pending (a : BitVec 8) (s : State) : (answerRead a s).pending = s.pending := rfl
@[simp] theorem answerRead_trace (a : BitVec 8) (s : State) : (answerRead a s).trace = s.trace := rfl
@[simp] theorem answerRead_inputs (a : BitVec 8) (s : State) : (answerRead a s).inputs = s.inputs := rfl
@[simp] theorem answerRead_answers (a : BitVec 8) (s : State) : (answerRead a s).answers = s.answers ++ [(a, readReg s.regs a)] := rfl
@[simp] theorem answerRead_env (a : BitVec 8) (s : State) : (answerRead a s).env = s.env := rfl
@[simp] theorem answerRead_draws (a : BitVec 8) (s : State) : (answerRead a s).draws = s.draws := rfl

@[simp] theorem State.acceptEvent_regs (s : State) : s.acceptEvent.regs = s.regs := by
  unfold State.acceptEvent; split <;> rfl
@[simp] theorem State.acceptEvent_inputs (s : State) : s.acceptEvent.inputs = s.inputs := by
  unfold State.acceptEvent; split <;> rfl
@[simp] theorem State.acceptEvent_answers (s : State) : s.acceptEvent.answers = s.answers := by
  unfold State.acceptEvent; split <;> rfl
@[simp] theorem State.acceptEvent_pending (s : State) : s.acceptEvent.pending = s.pending.tail := by
  unfold State.acceptEvent; split <;> simp_all

end Sys2Proof.Machine
end

