-- ==== Sys2Proof/Laws/Ops.lean ====
section
/-!
SUPPORT. What each shared operation can do, said once: the acceptance check, the render, the shared exits, single bits, and
one move of the machine. Later proofs cite these lemmas instead of unfolding the operation.
-/
namespace Sys2Proof.Machine

/-! ## Exits -/

@[simp] theorem reject_eq_next (c : Cause) (s t : State) : reject c s = .next t ↔ t = s.setStatus c := by
  simp [reject, eq_comm]

@[simp] theorem takeFault_eq_next (c : Cause) (s t : State) :
    takeFault c s = .next t ↔ t = s.mapRegs (Regs.takeFault c) := by
  simp [takeFault, eq_comm]

/-! ## The acceptance check (60_exceptions.md R254) -/

theorem whenAccepted_of_accepts {o : Op} {s : State} (h : s.accepts o = true) (body : State → Result) :
    whenAccepted o s body = body s := by simp [whenAccepted, h]

theorem whenAccepted_of_not {o : Op} {s : State} (h : s.accepts o = false) (body : State → Result) :
    whenAccepted o s body = reject .errState s := by simp [whenAccepted, h]

/-- A checked command answers next exactly in two ways: its body did, or its phase turned it away. -/
theorem whenAccepted_eq_next {o : Op} {s t : State} {body : State → Result} :
    whenAccepted o s body = .next t ↔
      (s.accepts o = true ∧ body s = .next t) ∨ (s.accepts o = false ∧ t = s.setStatus .errState) := by
  cases h : s.accepts o <;> simp [whenAccepted, h]

/-- The commands READY accepts, and the phase of an accepted configuration command (40_lifecycle.md R110). -/
theorem accepts_phase {s : State} {o : Op} (h : s.accepts o = true) :
    s.regs.phase = .unconfigured ∨ s.regs.phase = .ready := by
  cases hp : s.regs.phase <;> simp_all [State.accepts, phaseAccepts]

/-- Acceptance depends on the phase and the two written flags only. -/
theorem accepts_congr {s s' : State} (o : Op) (h1 : s.regs.phase = s'.regs.phase)
    (h2 : s.regs.spWritten = s'.regs.spWritten) (h3 : s.regs.hpWritten = s'.regs.hpWritten) :
    s.accepts o = s'.accepts o := by simp [State.accepts, h1, h2, h3]

/-! ## The render (44_serializer.md R205) -/

theorem renderFrame_of_valid {s : State} (h : s.regs.frameValid = true) (rest : State → Result) :
    renderFrame s rest = rest (s.emit (renderEvents s.regs)) := by simp [renderFrame, h]

theorem renderFrame_of_invalid {s : State} (h : s.regs.frameValid = false) (rest : State → Result) :
    renderFrame s rest = takeFault .faultUnresolved s := by simp [renderFrame, h]

/-- A render answers next exactly in two ways: 448 events and the rest of the command, or the fault without any event. -/
theorem renderFrame_eq_next {s t : State} {rest : State → Result} :
    renderFrame s rest = .next t ↔
      (s.regs.frameValid = true ∧ rest (s.emit (renderEvents s.regs)) = .next t) ∨
        (s.regs.frameValid = false ∧ t = s.mapRegs (Regs.takeFault .faultUnresolved)) := by
  cases h : s.regs.frameValid <;> simp [renderFrame, h]

/-! ## Single bits -/

@[simp] theorem oneHot_getLsbD (n i k : Nat) : (oneHot n i).getLsbD k = (decide (k = i) && decide (i < n)) := by
  unfold oneHot
  rw [BitVec.getLsbD_shiftLeft, BitVec.getLsbD_one]
  by_cases h : k = i
  · subst h
    by_cases hk : k < n <;> simp [hk]
    omega
  · by_cases hk : k < i
    · simp [hk, h]
    · have : k - i ≠ 0 := by omega
      simp [h, this]

@[simp] theorem setBit_getLsbD {n : Nat} (v : BitVec n) (i k : Nat) :
    (setBit v i).getLsbD k = (v.getLsbD k || (decide (k = i) && decide (i < n))) := by
  simp [setBit]

@[simp] theorem clearBit_getLsbD {n : Nat} (v : BitVec n) (i k : Nat) :
    (clearBit v i).getLsbD k = (v.getLsbD k && !decide (k = i)) := by
  simp only [clearBit, BitVec.getLsbD_and, BitVec.getLsbD_not, oneHot_getLsbD]
  by_cases hk : k < n
  · by_cases h : k = i
    · subst h; simp only [hk]; simp
    · simp only [hk, h]; simp
  · rw [BitVec.getLsbD_of_ge _ _ (by omega : n ≤ k)]; simp

@[simp] theorem writeBit_getLsbD {n : Nat} (v : BitVec n) (i k : Nat) (b : Bool) :
    (writeBit v i b).getLsbD k = if k = i ∧ i < n then b else v.getLsbD k := by
  by_cases hk : k < n
  · by_cases h : k = i
    · subst h; cases b <;> simp only [writeBit, Bool.false_eq_true, if_false, if_true, setBit_getLsbD,
        clearBit_getLsbD, hk] <;> simp
    · cases b <;> simp only [writeBit, Bool.false_eq_true, if_false, if_true, setBit_getLsbD,
        clearBit_getLsbD, h] <;> simp
  · have : ¬ (k = i ∧ i < n) := by omega
    rw [BitVec.getLsbD_of_ge _ _ (by omega : n ≤ k), if_neg this, BitVec.getLsbD_of_ge _ _ (by omega : n ≤ k)]

@[simp] theorem toggleBit_getLsbD {n : Nat} (v : BitVec n) (i k : Nat) (b : Bool) :
    (toggleBit v i b).getLsbD k = (v.getLsbD k ^^ (b && (decide (k = i) && decide (i < n)))) := by
  cases b <;> simp [toggleBit]

/-! ## STATUS -/

/-- A set bit stays, and exactly the named bit joins. -/
theorem setStatus_statusBit (c d : Cause) (r : Regs) :
    (r.setStatus c).statusBit d = (r.statusBit d || decide (d = c)) := by
  cases c <;> cases d <;> simp [Regs.statusBit, Cause.mask, Cause.code]

/-! ## One move of the machine -/

/-- Every way a step answers: the presented event accepted, a command word taken, a readback answered, the reset input, or
a wait. -/
theorem step_cases {s t : State} (h : step s = .next t) :
    (t = s.acceptEvent ∧ s.inputs.head? ≠ some .reset) ∨
      (∃ w rest, s.inputs = .command w :: rest ∧ s.pending = [] ∧ runWord w { s with inputs := rest } = .next t) ∨
      (∃ a rest, s.inputs = .readback a :: rest ∧ s.pending = [] ∧ t = answerRead a { s with inputs := rest }) ∨
      (∃ rest, s.inputs = .reset :: rest ∧ t = State.applyReset { s with inputs := rest }) ∨
      (∃ rest, s.inputs = .accept :: rest ∧ t = State.acceptEvent { s with inputs := rest }) ∨
      (∃ rest, s.inputs = .stall :: rest ∧ t = { s with inputs := rest }) := by
  unfold step takeMove at h
  split at h
  · exact .inl ⟨by simpa using h.symm, by simp_all⟩
  · split at h
    · exact .inl ⟨by simpa using h.symm, by simp_all⟩
    · exact .inr (.inl ⟨_, _, ‹_›, by simp_all [State.busy], h⟩)
  · split at h
    · exact .inl ⟨by simpa using h.symm, by simp_all⟩
    · exact .inr (.inr (.inl ⟨_, _, ‹_›, by simp_all [State.busy], by simpa using h.symm⟩))
  · exact .inr (.inr (.inr (.inl ⟨_, ‹_›, by simpa using h.symm⟩)))
  · exact .inr (.inr (.inr (.inr (.inl ⟨_, ‹_›, by simpa using h.symm⟩))))
  · exact .inr (.inr (.inr (.inr (.inr ⟨_, ‹_›, by simpa using h.symm⟩))))

/-- A word taken from the port is rejected as illegal or run as the command it decodes to (60_exceptions.md R254). -/
theorem runWord_eq_next {w : CmdWord} {s t : State} :
    runWord w s = .next t ↔
      ((∃ e, decode w = .error e) ∧ t = s.setStatus .errIllegal) ∨ (∃ i, decode w = .ok i ∧ exec i s = .next t) := by
  unfold runWord
  cases h : decode w <;> simp

/-- No step: the state itself. -/
theorem run_zero (s : State) : (Host.Core.run Sys2Proof.core 0 s : Result) = .next s := rfl

/-- One step and then the rest of the run, for any machine. -/
theorem run_succ_of_step (M : Host.Core) {n : Nat} {s t : M.State} (h : M.step s = .next t) :
    M.run (n + 1) s = M.run n t := by
  simp [Host.Core.run, h]

/-- One step and then the rest of the run. -/
theorem run_succ {n : Nat} {s t : State} (h : step s = .next t) :
    (Host.Core.run Sys2Proof.core (n + 1) s : Result) = Host.Core.run Sys2Proof.core n t :=
  run_succ_of_step Sys2Proof.core h

/-- A queue with nothing in it drains to itself. -/
theorem drain_of_nil {s : State} (h : s.pending = []) : s.drain = s := by
  cases s
  subst h
  simp [State.drain, takeEvents]

/-- Accepting events one after another is draining the queue: one step of it. -/
theorem drain_acceptEvent (s : State) : s.acceptEvent.drain = s.drain := by
  cases hp : s.pending <;> simp [State.acceptEvent, State.drain, takeEvents, hp]

end Sys2Proof.Machine
end

