-- ==== Sys2Proof/Laws/Exec.lean ====
section
/-!
SUPPORT. Every command is the acceptance check followed by its own effect, said once for all twelve, and the ways that
effect can answer. Later proofs over all commands start from here.
-/
namespace Sys2Proof.Machine

/-- The effect of each command once its phase accepts it. -/
def acceptedEffect (i : Instr) (s : State) : Result :=
  match i with
  | .cfgShiftPins data sclk latch =>
    .next (s.mapRegs fun r => { r with shiftPins := { data := data, sclk := sclk, latch := latch }, spWritten := true })
  | .cfgHardPins pins =>
    .next (s.mapRegs fun r => { r.mapWiring (fun w => { w with hardPins := pins }) with hpWritten := true })
  | .cfgHardRc rc => .next (s.mapRegs (Regs.mapWiring fun w => { w with hardRc := rc }))
  | .cfgShiftRc rc => .next (s.mapRegs (Regs.mapWiring fun w => { w with shiftRc := rc }))
  | .cfgShiftOff off => .next (s.mapRegs (Regs.mapWiring fun w => { w with shiftOff := off }))
  | .cfgCounts hn sn =>
    if countLegal hn && countLegal sn then
      .next (s.mapRegs (Regs.mapWiring fun w => { w with hardN := hn, shiftN := sn }))
    else reject .errValue s
  | .construct rows => .next ((s.emit (constructEvents s.regs)).mapRegs (Regs.construct rows))
  | .flip =>
    let s1 := s.mapRegs fun r => Regs.setStatusIf (!s.regs.fresh) .warnLateFlip r.clearFresh
    if s1.regs.wiring.hardN = s1.regs.wiring.shiftN then .next (s1.mapRegs Regs.flip)
    else .next ((s1.setStatus .errFlipMismatch).emit [.diag diagFlipMismatch])
  | .setPixels rows => .next (s.mapRegs fun r => Regs.setPixels rows r.clearFresh)
  | .refresh => renderFrame (s.mapRegs Regs.clearFresh) .next
  | .refreshWait us => renderFrame (s.mapRegs Regs.clearFresh) fun s => .next (s.emit [.delay us])
  | .shutdown =>
    let s1 := s.mapRegs Regs.clearFresh
    if s1.regs.frameValid then
      renderFrame (s1.mapRegs (Regs.setPixels allOff)) fun s => .next (s.mapRegs fun r => { r with phase := .dead })
    else takeFault .faultUnresolved s1

/-- A command is its acceptance check followed by its effect (60_exceptions.md R254). -/
theorem exec_eq_whenAccepted (i : Instr) (s : State) : exec i s = whenAccepted i.op s (acceptedEffect i) := by
  cases i <;> rfl

/-- A command answers next exactly when its effect does, or when its phase turns it away. -/
theorem exec_eq_next {i : Instr} {s t : State} :
    exec i s = .next t ↔
      (s.accepts i.op = true ∧ acceptedEffect i s = .next t) ∨ (s.accepts i.op = false ∧ t = s.setStatus .errState) := by
  rw [exec_eq_whenAccepted, whenAccepted_eq_next]

/-- A command whose phase accepts it has its effect. -/
theorem exec_of_accepts {i : Instr} {s : State} (h : s.accepts i.op = true) : exec i s = acceptedEffect i s := by
  rw [exec_eq_whenAccepted, whenAccepted_of_accepts h]

/-- A command whose phase does not accept it only sets ERR_STATE (R251). -/
theorem exec_of_not_accepts {i : Instr} {s : State} (h : s.accepts i.op = false) :
    exec i s = .next (s.setStatus .errState) := by
  rw [exec_eq_whenAccepted, whenAccepted_of_not h]; rfl

end Sys2Proof.Machine
end

