-- ==== Sys2Proof/Laws/Router.lean ====
section
/-!
SUPPORT. The Pin Router and the Output Compiler, said once: which entries the claim lists hold and in which order, the two
ways a compilation ends, and where one routed bit goes.
-/
namespace Sys2Proof.Machine

@[simp] theorem buildRoutes_getElem (w : Wiring) (p : Pos) : (buildRoutes w)[p] = routeOf w p := by
  simp [buildRoutes]

/-- The hardwired claims are the entries below HARD_N that name the position (41_pin_router.md R140). -/
@[simp] theorem mem_hardClaims {w : Wiring} {p : Pos} {i : Fin 8} :
    i ∈ hardClaims w p ↔ i.val < w.hardN.toNat ∧ w.hardRc[i].toNat = p.val := by simp [hardClaims]

/-- The shift claims are the entries below SHIFT_N that name the position (R140). -/
@[simp] theorem mem_shiftClaims {w : Wiring} {p : Pos} {j : Fin 8} :
    j ∈ shiftClaims w p ↔ j.val < w.shiftN.toNat ∧ w.shiftRc[j].toNat = p.val := by simp [shiftClaims]

/-- The hardwired claims come in increasing order. -/
theorem hardClaims_pairwise (w : Wiring) (p : Pos) : (hardClaims w p).Pairwise (· < ·) :=
  (List.pairwise_lt_finRange 8).filter _

/-- The shift claims come in increasing order. -/
theorem shiftClaims_pairwise (w : Wiring) (p : Pos) : (shiftClaims w p).Pairwise (· < ·) :=
  (List.pairwise_lt_finRange 8).filter _

/-- A compilation with every route resolved (43_output_compiler.md R180). -/
theorem compile_of_resolved {route : Vector Route 16} (h : allResolved route = true) (pattern : Vector RowColBits 8) :
    compile pattern route = (Vector.ofFn fun s => compileSlot route (scanPattern pattern s), true) := by
  simp [compile, h]

/-- A compilation with an unresolved route (R187). -/
theorem compile_of_unresolved {route : Vector Route 16} (h : allResolved route = false) (pattern : Vector RowColBits 8) :
    compile pattern route = (Vector.replicate 16 Slot.zero, false) := by simp [compile, h]

/-- FRAME_VALID depends on the routes only (R187). -/
theorem compile_snd (pattern : Vector RowColBits 8) (route : Vector Route 16) :
    (compile pattern route).2 = allResolved route := by
  cases h : allResolved route
  · rw [compile_of_unresolved h]
  · rw [compile_of_resolved h]

/-- FLIP changes the counts nowhere (45_flipper.md R236). -/
@[simp] theorem flipped_counts (w : Wiring) : w.flipped.hardN = w.hardN ∧ w.flipped.shiftN = w.shiftN := ⟨rfl, rfl⟩

/-- FLIP changes no hardwired pin (R233). -/
@[simp] theorem flipped_hardPins (w : Wiring) : w.flipped.hardPins = w.hardPins := rfl

end Sys2Proof.Machine
end

