-- ==== Sys2Proof/Tests/Slice0.lean ====
section
/-!
SUPPORT. Tests of one step or one operation each, their expected results taken from the spec's worked encodings
(30_encoding.md R89) and vectors (95_test_vectors.md X1 to X8, V1 to V9), and for every obligation with hypotheses a witness
that meets them.
-/
namespace Sys2Proof.Tests

open Sys2Proof.Machine Sys2Proof.Claims

/-! ## Small states -/

/-- Eight bytes equal to zero. -/
abbrev zeros : Vector Byte 8 := #v[0, 0, 0, 0, 0, 0, 0, 0]

/-- The bitmap with one pixel, row 0 column 7 (95_test_vectors.md X5). -/
abbrev onePixel : Vector Byte 8 := #v[0x80, 0, 0, 0, 0, 0, 0, 0]

/-- An environment with every pin an input at 0 and an unknown shift register (P1: GPIO_INIT all zero). -/
def env0 : Env := { portLo := 0, portHi := 0, ddrLo := 0, ddrHi := 0, srBuf := 0x5A, srOut := 0xA5 }

/-- The shift-control pins of W_EX. -/
def wexPins : ShiftPins := { data := 10, sclk := 11, latch := 12 }

/-- An idle block with these registers. -/
def idle (r : Regs) : State :=
  { regs := r, pending := [], trace := [], inputs := [], answers := [], env := env0, draws := 0 }

/-- Registers as reset leaves them, with W_EX arrays in place of the open ones. -/
def blankRegs : Regs := { Regs.reset with wiring := { wexWiring with hardPins := Vector.replicate 8 0 } }

/-- A configured block that is not constructed. -/
def configured (w : Wiring) : State :=
  idle { blankRegs with shiftPins := wexPins, wiring := w, spWritten := true, hpWritten := true }

/-- The block right after CONSTRUCT, its events accepted. -/
def built (w : Wiring) (rows : Vector Byte 8) : State := idle ((configured w).regs.construct rows)

/-- W_EX after CONSTRUCT of the all-zero bitmap. -/
def ready : State := built wexWiring zeros

/-- W_EX with counts 8 and 7: ROUTE[15] is UNRESOLVED. -/
def uncoveredWiring : Wiring := { wexWiring with shiftN := 7 }

/-- The block of 95_test_vectors.md V8: READY with an invalid frame. -/
def invalid : State := built uncoveredWiring zeros

/-- The block after SHUTDOWN. -/
def dead : State := idle { ready.regs with fresh := false, phase := .dead }

/-- The block in FAULT, as V8 leaves it. -/
def faulted : State :=
  idle { invalid.regs with fresh := false, phase := .fault, status := 0xC0 }

/-- A block in the middle of a command. -/
def busy : State := { ready with pending := [.pin 10 true, .pin 11 true] }

/-- The state with these moves to come. -/
def withMoves (s : State) (moves : List Input) : State := { s with inputs := moves }

/-- What an answer leaves, seen through f; false when it stops. -/
def answerLeaves (o : Result) (f : State → Bool) : Bool :=
  match o with
  | .next t => f t
  | .fault _ => false
  | .refused _ => false

/-- What the command leaves, seen through f. -/
abbrev leaves (i : Instr) (s : State) (f : State → Bool) : Bool := answerLeaves (exec i s) f

/-- What one step leaves, seen through f. -/
abbrev stepLeaves (s : State) (f : State → Bool) : Bool := answerLeaves (step s) f

theorem exists_of_answerLeaves {o : Result} {f : State → Bool} (h : answerLeaves o f = true) :
    ∃ t, o = .next t ∧ f t = true := by
  unfold answerLeaves at h
  split at h
  · exact ⟨_, rfl, h⟩
  · cases h
  · cases h

/-- STATUS and the readback of CTRL (20_memory.md R67). -/
def statusCtrl (s : State) : Nat × Nat := ((readReg s.regs 0).toNat, (readReg s.regs 1).toNat)

/-- One slot of the frame as numbers. -/
def slotOf (s : State) (k : Fin 16) : Nat × Nat × Nat :=
  ((s.regs.frame[k]).lo.toNat, (s.regs.frame[k]).hi.toNat, (s.regs.frame[k]).sh.toNat)

/-! ## Decoding: the words of 30_encoding.md R89 written out -/

theorem test_decode_cfgShiftPins : decode 0x0100000000000C0B0A = .ok (.cfgShiftPins 10 11 12) := by decide

theorem test_decode_cfgHardPins :
    decode 0x020908070605040302 = .ok (.cfgHardPins #v[2, 3, 4, 5, 6, 7, 8, 9]) := by decide

theorem test_decode_cfgHardRc :
    decode 0x030000000076543210 = .ok (.cfgHardRc #v[0, 1, 2, 3, 4, 5, 6, 7]) := by decide

theorem test_decode_cfgShiftRc :
    decode 0x0400000000FEDCBA98 = .ok (.cfgShiftRc #v[8, 9, 10, 11, 12, 13, 14, 15]) := by decide

theorem test_decode_cfgShiftOff :
    decode 0x050000000076543210 = .ok (.cfgShiftOff #v[0, 1, 2, 3, 4, 5, 6, 7]) := by decide

theorem test_decode_cfgCounts : decode 0x060000000000000078 = .ok (.cfgCounts 8 7) := by decide

theorem test_decode_construct :
    decode 0x100102040810204080 = .ok (.construct #v[0x80, 0x40, 0x20, 0x10, 0x08, 0x04, 0x02, 0x01]) := by decide

theorem test_decode_flip : decode 0x110000000000000000 = .ok .flip := by decide

theorem test_decode_setPixels : decode 0x120000000000000080 = .ok (.setPixels onePixel) := by decide

theorem test_decode_refresh : decode 0x200000000000000000 = .ok .refresh := by decide

theorem test_decode_refreshWait : decode 0x2100000000000003E8 = .ok (.refreshWait 1000) := by decide

theorem test_decode_shutdown : decode 0x300000000000000000 = .ok .shutdown := by decide

/-- V1: unassigned opcodes, then reserved bits of each format. -/
theorem test_decode_refuses :
    decode 0x000000000000000000 = .error .illegalOpcode ∧ decode 0x070000000000000000 = .error .illegalOpcode ∧
      decode 0xFF0000000000000000 = .error .illegalOpcode ∧ decode 0x110000000000000001 = .error .reservedBits ∧
      decode 0x060000000000000100 = .error .reservedBits ∧ decode 0x050000000000000008 = .error .reservedBits ∧
      decode 0x010000000001000000 = .error .reservedBits ∧ decode 0x030000000100000000 = .error .reservedBits ∧
      decode 0x210000000100000000 = .error .reservedBits := by decide

/-! ## Well-formedness: one ill-formed term for each check, refused -/

theorem test_wf_opcode_refused : hasLegalOpcode 0x070000000000000000 = false ∧ wordWellFormed 0x070000000000000000 = false := by
  decide

theorem test_wf_reserved_refused :
    reservedBitsClear 0x110000000000000001 = false ∧ wordWellFormed 0x110000000000000001 = false := by decide

theorem test_wf_word_accepted : wordWellFormed 0x060000000000000099 = true ∧ (Instr.cfgCounts 9 9).wellFormed = true := by
  decide

theorem test_wf_operand_count_refused :
    operandCountOk { name := .op .cfgCounts, operands := [.num 8] } = false ∧
      AsmLine.wellFormed { name := .op .cfgCounts, operands := [.num 8] } = false ∧
      AsmLine.wellFormed { name := .op .flip, operands := [.num 0] } = false := by decide

theorem test_wf_operand_range_refused :
    rangesOk { name := .op .cfgShiftPins, operands := [.num 10, .num 256, .num 12] } = false ∧
      AsmLine.wellFormed { name := .op .cfgCounts, operands := [.num 16, .num 8] } = false ∧
      AsmLine.wellFormed { name := .op .refreshWait, operands := [.num 4294967296] } = false ∧
      AsmLine.wellFormed { name := .op .cfgCounts, operands := [.position 8, .num 8] } = false ∧
      AsmLine.wellFormed { name := .refreshN, operands := [.num 0] } = false := by decide

theorem test_wf_lines_accepted :
    AsmLine.wellFormed { name := .op .cfgCounts, operands := [.num 15, .num 0] } = true ∧
      AsmLine.wellFormed { name := .op .cfgHardRc, operands := (List.replicate 7 (.num 15)) ++ [.position 15] } = true := by
  decide

/-- R87: comments, bases, position names, errors; R89's words. -/
theorem test_assemble_text :
    assemble "CFG_SHIFT_RC R0, R1, R2, R3, R4, R5, R6, 15 ; rows".toList = .ok [0x0400000000FEDCBA98] ∧
      assemble "REFRESH_WAIT 0x3E8".toList = .ok [0x2100000000000003E8] ∧
      assemble "CFG_COUNTS 0b1000, 8".toList = .ok [0x060000000000000088] ∧
      assemble "REFRESH_N 2".toList = .ok [0x200000000000000000, 0x200000000000000000] ∧
      assemble "NOP".toList = .error .unknownMnemonic ∧ assemble "FLIP 1".toList = .error .operandCount ∧
      assemble "CFG_COUNTS 16, 8".toList = .error .operandRange := by decide

/-! ## One or two tests a command -/

/-- W_EX word 1 (section 0 of 95_test_vectors.md). -/
theorem test_cfgShiftPins :
    leaves (.cfgShiftPins 10 11 12) (idle blankRegs) (fun t =>
      readReg t.regs 2 == 0x0C0B0A && statusCtrl t == (0, 0x20) && t.pending.isEmpty) = true := by decide

/-- V1: configuration only before CONSTRUCT. -/
theorem test_cfgShiftPins_ready : leaves (.cfgShiftPins 1 2 3) ready (fun t => statusCtrl t == (2, 0x75)) = true := by decide

/-- V1: every HARD_PINS byte 255. -/
theorem test_cfgHardPins :
    leaves (.cfgHardPins (Vector.replicate 8 255)) (idle blankRegs) (fun t =>
      readReg t.regs 3 == 0xFFFFFFFFFFFFFFFF && statusCtrl t == (0, 0x40)) = true := by decide

theorem test_cfgHardRc :
    leaves (.cfgHardRc #v[8, 9, 10, 11, 12, 13, 14, 15]) (idle blankRegs) (fun t =>
      readReg t.regs 4 == 0xFEDCBA98 && readReg t.regs 5 == 0xFEDCBA98) = true := by decide

theorem test_cfgShiftRc :
    leaves (.cfgShiftRc #v[0, 1, 2, 3, 4, 5, 6, 7]) (idle blankRegs) (fun t =>
      readReg t.regs 5 == 0x76543210 && readReg t.regs 4 == 0x76543210) = true := by decide

/-- V1: SHIFT_OFF = [7 x 8]. -/
theorem test_cfgShiftOff :
    leaves (.cfgShiftOff (Vector.replicate 8 7)) (idle blankRegs) (fun t =>
      readReg t.regs 6 == 0x77777777 && statusCtrl t == (0, 0)) = true := by decide

theorem test_cfgCounts : leaves (.cfgCounts 8 7) (idle blankRegs) (fun t => readReg t.regs 7 == 0x78) = true := by decide

/-- V1: count above 8, neither count written. -/
theorem test_cfgCounts_value :
    leaves (.cfgCounts 9 7) (idle blankRegs) (fun t => readReg t.regs 7 == 0x88 && statusCtrl t == (4, 0)) = true := by decide

/-- V2: eleven DIR_OUT events, then 0x75. -/
theorem test_construct :
    leaves (.construct zeros) (configured wexWiring) (fun t =>
      t.pending == [10, 11, 12, 2, 3, 4, 5, 6, 7, 8, 9].map Event.dirOut && statusCtrl t == (0, 0x75) &&
        readReg t.regs 0x30 == 0x1FF0000) = true := by decide

/-- V2: counts 0 and 8: three events only, WARN_UNCOVERED. -/
theorem test_construct_uncovered :
    leaves (.construct zeros) (configured { wexWiring with hardN := 0 }) (fun t =>
      t.pending == [10, 11, 12].map Event.dirOut && statusCtrl t == (0x40, 0x65)) = true := by decide

/-- V7, counts 3 and 3: entries 3..7 unchanged. -/
theorem test_flip :
    leaves .flip (built { wexWiring with hardN := 3, shiftN := 3 } zeros) (fun t =>
      readReg t.regs 4 == 0x76543A98 && readReg t.regs 5 == 0xFEDCB210 && readReg t.regs 6 == 0x76543012 &&
        statusCtrl t == (0x40, 0x69) && t.pending.isEmpty) = true := by decide

/-- V7, counts 8 and 7: DIAG, no mutation. -/
theorem test_flip_mismatch :
    leaves .flip invalid (fun t =>
      readReg t.regs 4 == 0x76543210 && statusCtrl t == (0x48, 0x61) && t.pending == [.diag 1]) = true := by decide

/-- X5: slot 14 = 00/02/FE, every other slot 00/00/FF. -/
theorem test_setPixels :
    leaves (.setPixels onePixel) ready (fun t =>
      slotOf t 14 == (0, 2, 0xFE) && slotOf t 13 == (0, 0, 0xFF) && statusCtrl t == (0, 0x71)) = true := by decide

/-- V8: SET_PIXELS over an unresolved route. -/
theorem test_setPixels_invalid :
    leaves (.setPixels onePixel) invalid (fun t => slotOf t 14 == (0, 0, 0) && statusCtrl t == (0x40, 0x61)) = true := by decide

/-- X7 and R208: 448 events, the first three and the last. -/
theorem test_refresh :
    leaves .refresh ready (fun t =>
      t.pending.length == 448 && t.pending.take 3 == [.pin 10 true, .pin 11 true, .pin 11 false] &&
        t.pending.getLast? == some (.group .hi 0)) = true := by decide +kernel

/-- V8: fault, no event. -/
theorem test_refresh_fault :
    leaves .refresh invalid (fun t => statusCtrl t == (0xC0, 0x63) && t.pending.isEmpty) = true := by decide

/-- V6: the last event is DELAY, for a zero wait too. -/
theorem test_refreshWait :
    leaves (.refreshWait 0) ready (fun t =>
      t.pending.length == 449 && t.pending.getLast? == some (.delay 0)) = true := by decide +kernel

/-- V8: no DELAY after a fault. -/
theorem test_refreshWait_fault :
    leaves (.refreshWait 5) invalid (fun t => statusCtrl t == (0xC0, 0x63) && t.pending.isEmpty) = true := by decide

/-- X6, under flipped W_EX: every slot FC/03/00, PIXELS 0, DEAD. -/
theorem test_shutdown :
    leaves .shutdown (built wexWiring.flipped onePixel) (fun t =>
      t.pending.drop 446 == [.group .lo 0xFC, .group .hi 3] && readReg t.regs 8 == 0 && statusCtrl t == (0, 0x72)) = true := by
  decide

/-- V8: the fault leaves PIXELS. -/
theorem test_shutdown_fault :
    leaves .shutdown (built uncoveredWiring onePixel) (fun t =>
      readReg t.regs 8 == 0x80 && statusCtrl t == (0xC0, 0x63) && t.pending.isEmpty) = true := by decide

/-! ## Ports, reset, environment -/

/-- V9. -/
theorem test_reset_readback :
    readReg State.reset.regs 0 = 0 ∧ readReg State.reset.regs 1 = 0 ∧ readReg State.reset.regs 7 = 0x88 ∧
      readReg State.reset.regs 0x1F = 0 ∧ readReg State.reset.regs 0x27 = 0xFF00 ∧ readReg State.reset.regs 0x3F = 0 ∧
      readReg State.reset.regs 0x40 = 0x14C38 ∧ readReg State.reset.regs 0x41 = 0 := by decide

/-- V1, reset rows: REFRESH is not ready, an all-zero word is illegal; V8: FAULT rejects. -/
theorem test_step_rejects :
    stepLeaves (State.reset.withFetchWord 72 0x200000000000000000) (fun t => t.regs.status == 2) = true ∧
      stepLeaves (State.reset.withFetchWord 72 0) (fun t => t.regs.status == 1) = true ∧
      stepLeaves (faulted.withFetchWord 72 0x110000000000000000) (fun t => statusCtrl t == (0xC2, 0x63)) = true := by decide

/-- 70_reset_and_hazards.md R310: READY and DEAD end normally, FAULT does not, and neither does a busy block. -/
theorem test_endsNormally :
    endsNormally ready = true ∧ endsNormally dead = true ∧ endsNormally faulted = false ∧ endsNormally busy = false ∧
      endsNormally (withMoves ready [.command 0]) = false := by decide

/-- V6: after the latch of slot 14, SR_OUT = FE and only the data pin is high; then pin 9 and the LED of row 0, column 7. -/
theorem test_environment_slot :
    let e := { env0 with ddrLo := 0xFC, ddrHi := 0x1F }
    let evs := emitSlot wexPins { lo := 0, hi := 2, sh := 0xFE }
    ((takeEvents wexPins (e, 0) (evs.take 26)).1.srOut = 0xFE ∧ (takeEvents wexPins (e, 0) (evs.take 26)).1.portHi = 0x04) ∧
      (takeEvents wexPins (e, 0) evs).1.portHi = 2 ∧ (takeEvents wexPins (e, 0) evs).2 = 0 := by decide +kernel

/-- 60_exceptions.md R273, U10: data and clock on one pin: the bit shifted in is a free value, and the count moves on. -/
theorem test_environment_free_bit :
    (takeEvent { data := 3, sclk := 3, latch := 4 } ({ env0 with ddrLo := 0xFF }, 6) (.pin 3 true)).2 = 7 := by decide

/-! ## Witnesses: for each obligation with hypotheses, a state and operands that meet them -/

theorem witness_ResetAbandonsTheCommandAndKeepsTheEnvironment :
    (withMoves busy [.reset]).inputs = .reset :: [] ∧ busy.pending ≠ [] := by decide

/-- The four phase changes: CONSTRUCT, SHUTDOWN, a faulting REFRESH and a faulting SHUTDOWN. -/
theorem witness_PhaseChangesOnlyAlongTheLifecycle :
    (withMoves ready [.command 0x300000000000000000]).inputs.head? ≠ some .reset ∧
      (∃ t, step (withMoves (configured wexWiring) [.command 0x100000000000000000]) = .next t ∧
        decide (t.regs.phase ≠ .unconfigured) = true) ∧
      (∃ t, step (withMoves ready [.command 0x300000000000000000]) = .next t ∧ decide (t.regs.phase ≠ .ready) = true) ∧
      (∃ t, step (withMoves invalid [.command 0x200000000000000000]) = .next t ∧ decide (t.regs.phase ≠ .ready) = true) ∧
      ∃ t, step (withMoves invalid [.command 0x300000000000000000]) = .next t ∧ decide (t.regs.phase ≠ .ready) = true :=
  ⟨by decide, exists_of_answerLeaves (by decide), exists_of_answerLeaves (by decide +kernel), exists_of_answerLeaves (by decide),
    exists_of_answerLeaves (by decide)⟩

/-- STATUS bits 6 and 7 held across a rejected command. -/
theorem witness_StatusBitsAreSticky :
    (withMoves faulted [.command 0]).inputs.head? ≠ some .reset ∧
      faulted.regs.status.getLsbD 6 = true ∧ faulted.regs.status.getLsbD 7 = true ∧
      ∃ t, step (withMoves faulted [.command 0]) = .next t ∧ (t.regs.status == 0xC1) = true :=
  ⟨by decide, by decide, by decide, exists_of_answerLeaves (by decide)⟩

theorem witness_StepRunsTheDecodedCommand :
    (withMoves ready [.command 0x120000000000000080]).pending = [] ∧
      (withMoves ready [.command 0x120000000000000080]).inputs = .command 0x120000000000000080 :: [] ∧
      decode 0x120000000000000080 = .ok (.setPixels onePixel) := by decide

/-- A busy block with no move, a command, a read and an accept to come; an idle block with no move and with an accept. -/
theorem witness_BusyBlockOnlyPresentsItsEvents :
    (busy.pending = .pin 10 true :: [.pin 11 true] ∧ busy.inputs = [] ∧
        (withMoves busy [.command 7]).inputs = .command 7 :: [] ∧
        (withMoves busy [.readback 0x40]).inputs = .readback 0x40 :: [] ∧
        (withMoves busy [.accept]).inputs = .accept :: []) ∧
      ready.pending = [] ∧ ready.inputs = [] ∧ (withMoves ready [.accept]).inputs = .accept :: [] := by decide

/-- R63: the move accept hands over the first of two presented events; R272: on driven pins it sets that pin's PORT bit. -/
theorem test_accept :
    stepLeaves (withMoves { busy with env := { env0 with ddrHi := 0x1F } } [.accept, .stall]) (fun t =>
      t.trace == [.pin 10 true] && t.pending == [.pin 11 true] && t.inputs == [.stall] && t.env.portHi == 4) = true := by
  decide

/-- A read of an idle block, and one of a busy block. -/
theorem witness_ReadbackAnswersWithoutSideEffect :
    ((withMoves ready [.readback 0]).inputs = .readback 0 :: [] ∧ (withMoves ready [.readback 0]).pending = []) ∧
      (withMoves busy [.readback 0xFF]).inputs = .readback 0xFF :: [] ∧ (withMoves busy [.readback 0xFF]).pending ≠ [] := by
  decide

/-- A command that presents events, and an event accepted. -/
theorem witness_EventTraceGrowsInCommandOrder :
    ((withMoves (configured wexWiring) [.command 0x100000000000000000]).inputs.head? ≠ some .reset ∧
        ∃ t, step (withMoves (configured wexWiring) [.command 0x100000000000000000]) = .next t ∧
          (t.pending.length == 11) = true) ∧
      busy.inputs.head? ≠ some .reset ∧ ∃ t, step busy = .next t ∧ (t.trace == [.pin 10 true]) = true :=
  ⟨⟨by decide, exists_of_answerLeaves (by decide +kernel)⟩, by decide, exists_of_answerLeaves (by decide)⟩

theorem witness_PresentedEventsAreAllDelivered :
    busy.inputs = [] ∧ busy.pending.length = 2 ∧ (withMoves busy [.command 7]).inputs = .command 7 :: [] ∧
      (withMoves busy [.readback 0]).inputs = .readback 0 :: [] := by decide

theorem witness_StalledBlockStaysBusy :
    (withMoves busy [.stall, .stall, .accept]).inputs = List.replicate 2 .stall ++ [.accept] := by decide

theorem witness_EncodeOfDecodeIsTheWord : decode 0x060000000000000099 = .ok (.cfgCounts 9 9) := by decide

theorem witness_AssembledWordsAreWellFormed :
    assemble "CFG_COUNTS 15, 15".toList = .ok [0x0600000000000000FF] ∧
      (0x0600000000000000FF : CmdWord) ∈ [(0x0600000000000000FF : CmdWord)] := by decide

/-- REFRESH_N at its smallest count. -/
theorem witness_PseudoInstructionsExpand :
    (1 : Nat) ≤ 1 ∧ assembleLine { name := .refreshN, operands := [.num 1] } = .ok [.refresh] := by decide

/-- For every format with reserved bits, the largest payload without one set, and a payload with the lowest (for F_OFF8 the
first and the last nibble's) reserved bit set, presented to an idle block. -/
theorem witness_reserved_bits :
    ((0xFFFFFF : Payload).extractLsb' 24 40 = 0 ∧ (0x1000000 : Payload).extractLsb' 24 40 ≠ 0) ∧
      ((0xFFFFFFFF : Payload).extractLsb' 32 32 = 0 ∧ (0x100000000 : Payload).extractLsb' 32 32 ≠ 0) ∧
      ((0xFF : Payload).extractLsb' 8 56 = 0 ∧ (0x100 : Payload).extractLsb' 8 56 ≠ 0) ∧
      ((0x77777777 : Payload).extractLsb' 32 32 = 0 ∧
        (∀ i : Fin 8, (0x77777777 : Payload).getLsbD (4 * i.val + 3) = false) ∧
        (0x8 : Payload).getLsbD (4 * 0 + 3) = true ∧ (0x80000000 : Payload).getLsbD (4 * 7 + 3) = true) ∧
      (1 : Payload) ≠ 0 ∧
      (withMoves ready [.command (mkWord 0x05 8)]).pending = [] ∧
      (withMoves ready [.command (mkWord 0x05 8)]).inputs = .command (mkWord 0x05 8) :: [] := by decide

/-- A phase for each clause of the configuration commands' statements (CfgShiftPinsWritesTheTriple, CfgHardPinsWritesTheOctet,
CfgHardRcWritesTheMapping, CfgShiftRcWritesTheMapping, CfgShiftOffWritesTheOffsets). -/
theorem witness_configuration_phases :
    (idle blankRegs).regs.phase = .unconfigured ∧ ready.regs.phase ≠ .unconfigured ∧ dead.regs.phase ≠ .unconfigured ∧
      faulted.regs.phase ≠ .unconfigured := by decide

/-- Counts 8 and 8, counts 9 and 0, 0 and 15. -/
theorem witness_CfgCountsWritesLegalCounts :
    (idle blankRegs).regs.phase = .unconfigured ∧ (8 : Count).toNat ≤ 8 ∧ (0 : Count).toNat ≤ 8 ∧
      8 < (9 : Count).toNat ∧ 8 < (15 : Count).toNat ∧ ready.regs.phase ≠ .unconfigured := by decide

/-- Configured and ready for CONSTRUCT; not ready for it, in UNCONFIGURED and in READY. -/
theorem witness_ConstructBuildsTheObject :
    ((configured wexWiring).regs.phase = .unconfigured ∧ (configured wexWiring).regs.spWritten = true ∧
        (configured wexWiring).regs.hpWritten = true) ∧
      ¬ ((idle blankRegs).regs.phase = .unconfigured ∧ (idle blankRegs).regs.spWritten = true ∧
        (idle blankRegs).regs.hpWritten = true) ∧
      ¬ (ready.regs.phase = .unconfigured ∧ ready.regs.spWritten = true ∧ ready.regs.hpWritten = true) := by decide

theorem witness_SetPixelsReplacesTheBitmap : ready.regs.phase = .ready ∧ (idle blankRegs).regs.phase ≠ .ready := by decide

/-- READY with a valid frame, READY with an invalid one, and not READY (RefreshPresentsTheFrame and
RefreshWaitPresentsTheFrameAndTheDelay). -/
theorem witness_RefreshPresentsTheFrame :
    (ready.regs.phase = .ready ∧ ready.regs.frameValid = true) ∧
      (invalid.regs.phase = .ready ∧ invalid.regs.frameValid = false) ∧ dead.regs.phase ≠ .ready := by decide

theorem ready_cachesConsistent : cachesConsistent ready.regs := by decide +kernel

theorem invalid_cachesConsistent : cachesConsistent invalid.regs := by decide +kernel

/-- The same three with consistent caches. -/
theorem witness_ShutdownRendersOneBlankFrame :
    ((ready.regs.phase = .ready → cachesConsistent ready.regs) ∧ ready.regs.phase = .ready ∧
        ready.regs.frameValid = true) ∧
      ((invalid.regs.phase = .ready → cachesConsistent invalid.regs) ∧ invalid.regs.phase = .ready ∧
        invalid.regs.frameValid = false) ∧
      (dead.regs.phase = .ready → cachesConsistent dead.regs) ∧ dead.regs.phase ≠ .ready ∧ dead.regs.phase = .dead :=
  ⟨⟨fun _ => ready_cachesConsistent, by decide, by decide⟩, ⟨fun _ => invalid_cachesConsistent, by decide, by decide⟩,
    fun h => absurd h (by decide), by decide, by decide⟩

/-- N = 8 (no entry outside), N = 3 (entries 3..7 outside) and N = 0. -/
theorem witness_FlipSwapsReversesAndRebuilds :
    ∀ n ∈ [(8 : Count), 3, 0],
      (built { wexWiring with hardN := n, shiftN := n } zeros).regs.phase = .ready ∧
        countsLegal (built { wexWiring with hardN := n, shiftN := n } zeros).regs.wiring ∧
        (built { wexWiring with hardN := n, shiftN := n } zeros).regs.wiring.hardN =
          (built { wexWiring with hardN := n, shiftN := n } zeros).regs.wiring.shiftN ∧
        ((0 : Fin 8).val + (2 : Fin 8).val + 1 = (3 : Count).toNat ∧ (3 : Count).toNat ≤ (3 : Fin 8).val ∧
          (0 : Fin 8).val + (7 : Fin 8).val + 1 = (8 : Count).toNat) := by decide

theorem witness_FlipMismatchIsReportedWithoutMutation :
    invalid.regs.phase = .ready ∧ invalid.regs.wiring.hardN ≠ invalid.regs.wiring.shiftN := by decide

/-- The moves taken between two flips: another bitmap and the old one again, an illegal word, a read, a refresh. -/
def betweenFlips : List Input :=
  [.command 0x120000000000000080, .command 0x120000000000000000, .command 0, .readback 0, .command 0x200000000000000000]

theorem betweenFlips_ok : ∀ x ∈ betweenFlips, x ≠ .reset ∧ ∀ w, x = .command w → ¬ inRow w .flip := by
  simp only [betweenFlips, List.forall_mem_cons, List.not_mem_nil, false_imp_iff, implies_true, and_true, ne_eq, reduceCtorEq,
    not_false_eq_true, true_and, Input.command.injEq, forall_eq']
  decide

/-- Five steps between the flips, the second flip still to come as a move; and no step between them. -/
theorem witness_FlipTwiceRestoresTheConfiguration :
    (ready.regs.phase = .ready ∧ countsLegal ready.regs.wiring ∧ cachesConsistent ready.regs ∧
        ready.regs.wiring.hardN = ready.regs.wiring.shiftN) ∧
      (∃ t, exec .flip (withMoves ready (betweenFlips ++ [.command 0x110000000000000000])) = .next t ∧
        (answerLeaves (Host.Core.run Sys2Proof.core 5 t) fun m =>
          decide (m.inputs = [.command 0x110000000000000000] ∧ m.regs.phase = .ready ∧ m.regs.pixels = zeros ∧
            m.pending.length = 448)) = true) ∧
      ∃ t, exec .flip ready = .next t ∧
        (answerLeaves (Host.Core.run Sys2Proof.core 0 t) fun m => decide (ready.inputs = [] ++ m.inputs)) = true :=
  ⟨⟨by decide, by decide, ready_cachesConsistent, by decide⟩, exists_of_answerLeaves (by decide +kernel),
    exists_of_answerLeaves (by decide +kernel)⟩

/-- W_EX is well formed; position 8 is its shift entry 0, position 0 its hardwired entry 0, mirrored by entry 7. -/
theorem witness_RoutesAfterAFlip :
    wellFormedWiring wexWiring ∧ (8 : Pos).val = wexWiring.shiftRc[0].toNat ∧ (15 : Pos).val = wexWiring.shiftRc[7].toNat ∧
      (0 : Fin 8).val + (7 : Fin 8).val = 7 ∧ (0 : Pos).val = wexWiring.hardRc[0].toNat := by decide

theorem witness_EventCounts :
    (wexPins.sclk ≠ wexPins.data ∧ wexPins.sclk ≠ wexPins.latch ∧ wexPins.latch ≠ wexPins.data) ∧
      (ready.regs.phase = .ready ∧ cachesConsistent ready.regs ∧ ready.regs.frameValid = true) ∧
      invalid.regs.phase = .ready ∧ cachesConsistent invalid.regs ∧ invalid.regs.frameValid = false :=
  ⟨by decide, ⟨by decide, ready_cachesConsistent, by decide⟩, by decide, invalid_cachesConsistent, by decide⟩

/-- A wiring that claims position 0 by hardwired entries 0 and 1, position 8 by shift entries 0 and 7, and leaves
position 1 to nobody. -/
def doubled : Wiring :=
  { wexWiring with hardRc := #v[0, 0, 2, 3, 4, 5, 6, 7], shiftRc := #v[8, 9, 10, 11, 12, 13, 14, 8] }

theorem witness_RoutesFollowTheClaims :
    (hardClaim doubled 0 0 ∧ ∀ k, hardClaim doubled 0 k → 0 ≤ k) ∧
      ((∀ i, ¬ hardClaim doubled 8 i) ∧ shiftClaim doubled 8 0 ∧ ∀ k, shiftClaim doubled 8 k → 0 ≤ k) ∧
      claimedByNone doubled 1 := by decide

/-- W_EX; and counts 8 and 7, the most that do not suffice. -/
theorem witness_WellFormedWiringResolvesEveryPosition :
    wellFormedWiring wexWiring ∧ hardClaim wexWiring 7 7 ∧ shiftClaim wexWiring 15 7 ∧
      uncoveredWiring.hardN.toNat + uncoveredWiring.shiftN.toNat < 16 := by decide

/-- First and last pattern (PatternClosedForm and EachPatternSelectsAtMostOneRow). -/
theorem witness_PatternClosedForm :
    (7 : Fin 8).val + (0 : Fin 8).val = 7 ∧ (0 : Fin 8).val + (7 : Fin 8).val = 7 := by decide

/-- Routes with every entry resolved, and two odd slots (CompiledFrameClosedForm and AllZeroBitmapGivesBlankSlots). -/
theorem witness_CompiledFrameClosedForm :
    (∀ p : Pos, (buildRoutes wexWiring)[p] ≠ .unresolved) ∧ (1 : Fin 16).val % 2 = 1 ∧ (15 : Fin 16).val % 2 = 1 := by decide

/-- Routes with an unresolved entry, routes without one, and a block with an invalid frame. -/
theorem witness_UnresolvedRouteInvalidatesTheFrame :
    (∃ p : Pos, (buildRoutes uncoveredWiring)[p] = .unresolved) ∧
      (∀ p : Pos, (buildRoutes wexWiring)[p] ≠ .unresolved) ∧
      (Instr.refresh.op ∈ [Op.refresh, .refreshWait, .shutdown] ∧ invalid.regs.frameValid = false) := by decide

/-- A command outside its phases; one inside them, in READY. -/
theorem witness_PhaseAcceptanceTable :
    ¬ acceptedIn (Instr.cfgCounts 8 8).op ready.regs ∧ acceptedIn (Instr.setPixels zeros).op ready.regs ∧
      ready.regs.phase = .ready ∧ ∃ t, exec (.setPixels zeros) ready = .next t ∧ (t.regs.fresh == false) = true :=
  ⟨by decide, by decide, by decide, exists_of_answerLeaves (by decide)⟩

/-- One word for each check, in the order of R254, and one that passes them all. -/
theorem witness_FirstFailingCheckIsReported :
    (withMoves ready [.command 7]).pending = [] ∧ (withMoves ready [.command 7]).inputs = .command 7 :: [] ∧
      (∀ o ∈ Op.all, ¬ inRow 0x060000000000000100 o) ∧
      (inRow 0x060000000000000099 .cfgCounts ∧ ¬ acceptedIn .cfgCounts ready.regs) ∧
      (acceptedIn .cfgCounts (configured wexWiring).regs ∧
        (8 < ((0x060000000000000089 : CmdWord).extractLsb' 0 4).toNat ∨
          8 < ((0x060000000000000089 : CmdWord).extractLsb' 4 4).toNat)) ∧
      inRow 0x200000000000000000 .refresh ∧ acceptedIn .refresh ready.regs := by decide

/-- CONSTRUCT sets it, REFRESH clears it; a rejected CONSTRUCT, a configuration command accepted in UNCONFIGURED, and one
rejected there with ERR_VALUE keep it; and two steps that change it. -/
theorem witness_FreshMarksConstruct :
    (acceptedIn (Instr.construct zeros).op (configured wexWiring).regs ∧
        ∃ t, exec (.construct zeros) (configured wexWiring) = .next t ∧ t.regs.fresh = true) ∧
      (Instr.refresh.op ≠ .construct ∧ acceptedIn Instr.refresh.op ready.regs ∧ ready.regs.phase = .ready ∧
        ∃ t, exec .refresh ready = .next t ∧ (t.regs.fresh == false) = true) ∧
      (¬ acceptedIn (Instr.construct zeros).op ready.regs ∧
        ∃ t, exec (.construct zeros) ready = .next t ∧ t.regs.fresh = true) ∧
      (∀ n ∈ [(3 : Count), 9], acceptedIn (Instr.cfgCounts n 8).op (idle blankRegs).regs ∧
        ¬ ((Instr.cfgCounts n 8).op = .construct ∨ (idle blankRegs).regs.phase = .ready)) ∧
      ∀ x ∈ [(configured wexWiring, (0x100000000000000000 : CmdWord)), (ready, 0x200000000000000000)],
        (withMoves x.1 [.command x.2]).inputs.head? ≠ some .reset ∧
          stepLeaves (withMoves x.1 [.command x.2]) (fun t => t.regs.fresh != x.1.regs.fresh) = true :=
  ⟨⟨by decide, exists_of_answerLeaves (by decide)⟩, ⟨by decide, by decide, by decide, exists_of_answerLeaves (by decide)⟩,
    ⟨by decide, exists_of_answerLeaves (by decide)⟩, by decide, by decide +kernel⟩

/-- For each cause of R258 but ERR_ILLEGAL, the bit, a command and a state in which that command sets it. -/
theorem witness_status_causes :
    ∀ x ∈ [(1, Instr.construct zeros, ready), (2, .cfgCounts 9 8, idle blankRegs), (3, .flip, invalid),
        (4, .flip, idle { ready.regs with fresh := false }), (5, .construct zeros, configured doubled),
        (6, .construct zeros, configured uncoveredWiring), (7, .refresh, invalid)],
      x.2.2.regs.status.getLsbD x.1 = false ∧ leaves x.2.1 x.2.2 (fun t => t.regs.status.getLsbD x.1) = true := by
  decide +kernel

/-- For every register of the statement a command that changes it. -/
theorem witness_OnlyTheListedCommandsWriteARegister :
    (∃ t, exec (.construct onePixel) (configured wexWiring) = .next t ∧
      (decide (t.regs.phase ≠ .unconfigured ∧ t.regs.fresh = true ∧ t.regs.pixels ≠ zeros ∧
        t.regs.route ≠ (configured wexWiring).regs.route ∧ t.regs.frameValid = true)) = true) ∧
      (∃ t, exec .flip ready = .next t ∧
        (decide (t.regs.flipped = true ∧ t.regs.wiring.hardRc ≠ wexWiring.hardRc ∧ t.regs.wiring.shiftRc ≠ wexWiring.shiftRc ∧
          t.regs.wiring.shiftOff ≠ wexWiring.shiftOff)) = true) ∧
      (∃ t, exec (.cfgShiftPins 1 2 3) (idle blankRegs) = .next t ∧
        (decide (t.regs.spWritten = true ∧ t.regs.shiftPins ≠ blankRegs.shiftPins)) = true) ∧
      (∃ t, exec (.cfgHardPins onePixel) (idle blankRegs) = .next t ∧
        (decide (t.regs.hpWritten = true ∧ t.regs.wiring.hardPins ≠ blankRegs.wiring.hardPins)) = true) ∧
      (∃ t, exec (.cfgCounts 3 4) (idle blankRegs) = .next t ∧
        (decide (t.regs.wiring.hardN ≠ 8 ∧ t.regs.wiring.shiftN ≠ 8)) = true) ∧
      (∃ t, exec .refresh ready = .next t ∧ (decide (ready.regs.fresh = true ∧ t.regs.fresh = false)) = true) ∧
      (∃ t, exec .refresh invalid = .next t ∧ (decide (t.regs.phase = .fault ∧ t.regs.status = 0xC0)) = true) :=
  ⟨exists_of_answerLeaves (by decide +kernel), exists_of_answerLeaves (by decide +kernel), exists_of_answerLeaves (by decide),
    exists_of_answerLeaves (by decide), exists_of_answerLeaves (by decide), exists_of_answerLeaves (by decide),
    exists_of_answerLeaves (by decide)⟩

theorem witness_StatusNeverSteersACommand :
    ∃ t, exec .flip invalid = .next t ∧ (t.regs.status == 0x48) = true := exists_of_answerLeaves (by decide)

theorem witness_EnvironmentNeverSteersTheCore :
    ∃ t, step busy = .next t ∧ (t.pending == [.pin 11 true]) = true := exists_of_answerLeaves (by decide)

/-- Every pin an output, all low. -/
def drivenEnv : Env := { env0 with ddrLo := 0xFF, ddrHi := 0xFF }

theorem witness_ShiftRegisterHoldsTheShiftByte :
    ([wexPins.data, wexPins.sclk, wexPins.latch].map pinBit).Nodup ∧
      (∀ q ∈ [wexPins.data, wexPins.sclk, wexPins.latch], drivenEnv.drives q = true) ∧
      drivenEnv.level wexPins.sclk = some false ∧ drivenEnv.level wexPins.latch = some false := by decide

theorem witness_SlotShowsItsPattern :
    collisionFree wexPins wexWiring ∧ slotStart wexPins wexWiring drivenEnv := by decide

/-- A PIN event on a bit that pins 11 and 19 share; GROUP(HI, 0x0C), which raises the clock pin 11 and the data pin 10 and leaves
the latch pin 12 low, as an event that meets the general clause and as a GROUP write that meets the last one. -/
theorem witness_SharedClockAndDataShiftInAFreeBit :
    (samePinBit 11 19 ∧ ¬ samePinBit 12 19 ∧ drivenEnv.level 19 = some false) ∧
      (drivenEnv.level wexPins.sclk = some false ∧ (drivenEnv.gpio (.group .hi 0x0C)).level wexPins.sclk = some true ∧
        (drivenEnv.gpio (.group .hi 0x0C)).level wexPins.data ≠ drivenEnv.level wexPins.data ∧
        ¬ (drivenEnv.level wexPins.latch = some false ∧
          (drivenEnv.gpio (.group .hi 0x0C)).level wexPins.latch = some true)) ∧
      ((Group.hi = .lo ↔ wexPins.sclk.toNat < 8) ∧ (Group.hi = .lo ↔ wexPins.data.toNat < 8) ∧
        (0x0C : Byte).getLsbD (wexPins.sclk.toNat % 8) = true ∧ drivenEnv.level wexPins.data = some false ∧
        (0x0C : Byte).getLsbD (wexPins.data.toNat % 8) = !false ∧
        (0x0C : Byte).getLsbD (wexPins.latch.toNat % 8) = false) := by decide

/-- HARD_N = 8: the last entry is configured too. -/
theorem witness_ConstructMakesItsPinsOutputs :
    (7 : Fin 8).val < (configured wexWiring).regs.wiring.hardN.toNat ∧
      (configured wexWiring).regs.shiftPins.latch ∈
        [(configured wexWiring).regs.shiftPins.data, (configured wexWiring).regs.shiftPins.sclk,
          (configured wexWiring).regs.shiftPins.latch] := by decide

/-- An environment that shows the blank slot of W_EX. -/
def blankEnv : Env := { drivenEnv with srBuf := 0xFF, srOut := 0xFF }

/-- An environment that shows the slot of the pattern 0xFE80 under W_EX (95_test_vectors.md X5: 00/02/FE). -/
def litEnv : Env := { drivenEnv with portHi := 2, srBuf := 0xFE, srOut := 0xFE }

/-- From a blank slot to the pattern 0xFE80, and from that pattern to a blank slot. -/
theorem witness_NoGhostingBetweenSlots :
    collisionFree wexPins wexWiring ∧
      (slotStart wexPins wexWiring blankEnv ∧
        (∀ q : Pos, blankEnv.lineLevel (buildRoutes wexWiring)[q] = some ((0xFF00 : RowColBits).getLsbD q.val)) ∧
        ((0xFF00 : RowColBits) = 0xFF00 ∨ (0xFE80 : RowColBits) = 0xFF00)) ∧
      slotStart wexPins wexWiring litEnv ∧
      (∀ q : Pos, litEnv.lineLevel (buildRoutes wexWiring)[q] = some ((0xFE80 : RowColBits).getLsbD q.val)) ∧
      ((0xFE80 : RowColBits) = 0xFF00 ∨ (0xFF00 : RowColBits) = 0xFF00) := by
  simp only [lineLevel_eq]
  decide

/-- The invariant holds of the ready block, of the block with an invalid frame and of the faulted one. -/
theorem ready_inv : Inv ready :=
  ⟨by decide, fun _ => ready_cachesConsistent, by decide, by decide, by decide, by decide, by decide⟩

theorem faulted_inv : Inv faulted :=
  ⟨by decide, by decide, by decide, by decide, by decide, by decide, by decide⟩

theorem witness_StepKeepsTheInvariant :
    Inv (withMoves ready [.command 0x300000000000000000]) ∧
      ∃ t, step (withMoves ready [.command 0x300000000000000000]) = .next t ∧ (t.pending.length == 448) = true :=
  ⟨⟨by decide, fun _ => ready_cachesConsistent, by decide, by decide, by decide, by decide, by decide⟩,
    exists_of_answerLeaves (by decide +kernel)⟩

end Sys2Proof.Tests
end

section
/-!
PROOFS of the family 10_state. What a command can do, said once on the registers: `CommandOutcome` lists every way a
command ends, and `exec_eq_next_iff_outcome` ties the list to the model's `exec`.
-/
namespace Sys2Proof.Machine

open Sys2Proof.Claims

/-! ## Acceptance -/

/-- The model's acceptance check is the table of R110 as the claims write it. -/
theorem accepts_iff_acceptedIn {s : State} {o : Op} : s.accepts o = true ↔ acceptedIn o s.regs := by
  cases o <;> cases hp : s.regs.phase <;> simp [State.accepts, phaseAccepts, acceptedIn, configOps, readyOps, hp]

theorem phase_of_acceptedIn_config {o : Op} {r : Regs} (h : acceptedIn o r) (ho : o ∈ configOps) :
    r.phase = .unconfigured := by
  have hdisj : ∀ o ∈ configOps, o ∉ readyOps := by decide
  obtain ⟨-, hp⟩ | ⟨-, hp, -⟩ | ⟨hr, -⟩ := h
  · exact hp
  · exact hp
  · exact absurd hr (hdisj o ho)

theorem phase_of_acceptedIn_ready {o : Op} {r : Regs} (h : acceptedIn o r) (ho : o ∈ readyOps) : r.phase = .ready := by
  have hdisj : ∀ o ∈ readyOps, o ∉ configOps ∧ o ≠ .construct := by decide
  obtain ⟨hc, -⟩ | ⟨hc, -⟩ | ⟨-, hp⟩ := h
  · exact absurd hc (hdisj o ho).1
  · exact absurd hc (hdisj o ho).2
  · exact hp

theorem phase_ne_dead_of_acceptedIn {o : Op} {r : Regs} (h : acceptedIn o r) : r.phase ≠ .dead := by
  obtain ⟨-, hp⟩ | ⟨-, hp, -⟩ | ⟨-, hp⟩ := h <;> simp [hp]

theorem phase_ne_fault_of_acceptedIn {o : Op} {r : Regs} (h : acceptedIn o r) : r.phase ≠ .fault := by
  obtain ⟨-, hp⟩ | ⟨-, hp, -⟩ | ⟨-, hp⟩ := h <;> simp [hp]

theorem acceptedIn_construct {r : Regs} :
    acceptedIn .construct r ↔ r.phase = .unconfigured ∧ r.spWritten = true ∧ r.hpWritten = true := by
  simp [acceptedIn, configOps, readyOps]

/-! ## STATUS bits -/

/-- A cause's mask has exactly its own bit (R258). -/
@[simp] theorem Cause.mask_getLsbD (c : Cause) (k : Nat) : c.mask.getLsbD k = (k == c.code) := by
  have hc : c.code < 8 := by cases c <;> decide
  calc c.mask.getLsbD k = (decide (k = c.code) && decide (c.code < 8)) := oneHot_getLsbD 8 c.code k
    _ = (k == c.code) := by simp [hc, beq_eq_decide]

theorem two_le_length_iff_of_nodup {α : Type} [DecidableEq α] {l : List α} (h : l.Nodup) :
    2 ≤ l.length ↔ ∃ i j, i ≠ j ∧ i ∈ l ∧ j ∈ l := by
  rw [← List.toFinset_card_of_nodup h, ← Nat.lt_iff_add_one_le, Finset.one_lt_card]
  simp only [List.mem_toFinset]
  exact ⟨fun ⟨i, hi, j, hj, hij⟩ => ⟨i, j, hij, hi, hj⟩, fun ⟨i, j, hij, hi, hj⟩ => ⟨i, hi, j, hj, hij⟩⟩

theorem hardClaims_nodup (w : Wiring) (p : Pos) : (hardClaims w p).Nodup :=
  (hardClaims_pairwise w p).imp ne_of_lt

theorem shiftClaims_nodup (w : Wiring) (p : Pos) : (shiftClaims w p).Nodup :=
  (shiftClaims_pairwise w p).imp ne_of_lt

/-- Of the two claim lists of a position together, two entries or more: the position is claimed twice (R145). -/
theorem two_le_claims_iff (w : Wiring) (p : Pos) :
    2 ≤ (hardClaims w p).length + (shiftClaims w p).length ↔ claimedTwice w p := by
  have hsplit : 2 ≤ (hardClaims w p).length + (shiftClaims w p).length ↔
      2 ≤ (hardClaims w p).length ∨ 2 ≤ (shiftClaims w p).length ∨
        (0 < (hardClaims w p).length ∧ 0 < (shiftClaims w p).length) := by omega
  rw [hsplit, two_le_length_iff_of_nodup (hardClaims_nodup w p), two_le_length_iff_of_nodup (shiftClaims_nodup w p),
    List.length_pos_iff_exists_mem, List.length_pos_iff_exists_mem]
  simp only [mem_hardClaims, mem_shiftClaims, claimedTwice, exists_and_left, exists_and_right]

/-- WARN_DUP_CLAIM's condition is a position claimed twice (R145). -/
theorem dupClaim_iff (w : Wiring) : dupClaim w = true ↔ ∃ p, claimedTwice w p := by
  simp only [dupClaim, List.any_eq_true, List.mem_finRange, true_and, decide_eq_true_eq, two_le_claims_iff]

/-- WARN_UNCOVERED's condition is a position claimed by no entry (R146). -/
theorem uncovered_iff (w : Wiring) : uncovered w = true ↔ ∃ p, claimedByNone w p := by
  simp only [uncovered, List.any_eq_true, List.mem_finRange, true_and, Bool.and_eq_true, List.isEmpty_iff,
    List.eq_nil_iff_forall_not_mem, mem_hardClaims, mem_shiftClaims]

/-- A route build sets bit 5 for a position claimed twice, bit 6 for one left to no entry, and no other bit. -/
theorem routeWarnings_getLsbD {w : Wiring} {k : Nat} (h : (routeWarnings w).getLsbD k = true) :
    (k = 5 ∧ ∃ p, claimedTwice w p) ∨ (k = 6 ∧ ∃ p, claimedByNone w p) := by
  rw [← dupClaim_iff, ← uncovered_iff]
  cases hd : dupClaim w <;> cases hu : uncovered w <;> simp_all [routeWarnings, Cause.code]

/-! ## The ways a command ends -/

/-- From registers `r`, command `i` can end with registers `r'` and present the events `es`. -/
inductive CommandOutcome : Instr → Regs → Regs → List Event → Prop
  /-- the phase turns the command away (60_exceptions.md R251) -/
  | turnedAway {i r} (h : ¬ acceptedIn i.op r) : CommandOutcome i r (r.setStatus .errState) []
  /-- 40_lifecycle.md R111 -/
  | cfgShiftPins {r} (data sclk latch) (h : acceptedIn .cfgShiftPins r) :
      CommandOutcome (.cfgShiftPins data sclk latch) r
        { r with shiftPins := { data := data, sclk := sclk, latch := latch }, spWritten := true } []
  /-- R112 -/
  | cfgHardPins {r} (pins) (h : acceptedIn .cfgHardPins r) :
      CommandOutcome (.cfgHardPins pins) r
        { r.mapWiring (fun w => { w with hardPins := pins }) with hpWritten := true } []
  /-- R113 -/
  | cfgHardRc {r} (rc) (h : acceptedIn .cfgHardRc r) :
      CommandOutcome (.cfgHardRc rc) r (r.mapWiring fun w => { w with hardRc := rc }) []
  /-- R114 -/
  | cfgShiftRc {r} (rc) (h : acceptedIn .cfgShiftRc r) :
      CommandOutcome (.cfgShiftRc rc) r (r.mapWiring fun w => { w with shiftRc := rc }) []
  /-- R115 -/
  | cfgShiftOff {r} (off) (h : acceptedIn .cfgShiftOff r) :
      CommandOutcome (.cfgShiftOff off) r (r.mapWiring fun w => { w with shiftOff := off }) []
  /-- R116 with legal counts -/
  | cfgCounts {r} (hn sn) (h : acceptedIn .cfgCounts r) (hlegal : hn.toNat ≤ 8 ∧ sn.toNat ≤ 8) :
      CommandOutcome (.cfgCounts hn sn) r (r.mapWiring fun w => { w with hardN := hn, shiftN := sn }) []
  /-- R116 with a count above 8 -/
  | illegalCounts {r} (hn sn) (h : acceptedIn .cfgCounts r) (hillegal : 8 < hn.toNat ∨ 8 < sn.toNat) :
      CommandOutcome (.cfgCounts hn sn) r (r.setStatus .errValue) []
  /-- R117 -/
  | construct {r} (rows) (h : acceptedIn .construct r) :
      CommandOutcome (.construct rows) r (r.construct rows) (constructEvents r)
  /-- 45_flipper.md R230 with equal counts -/
  | flip {r} (h : acceptedIn .flip r) (heq : r.wiring.hardN = r.wiring.shiftN) :
      CommandOutcome .flip r (r.clearFresh.setStatusIf (!r.fresh) .warnLateFlip).flip []
  /-- R232 -/
  | flipMismatch {r} (h : acceptedIn .flip r) (hne : r.wiring.hardN ≠ r.wiring.shiftN) :
      CommandOutcome .flip r ((r.clearFresh.setStatusIf (!r.fresh) .warnLateFlip).setStatus .errFlipMismatch)
        [.diag diagFlipMismatch]
  /-- 40_lifecycle.md R120 -/
  | setPixels {r} (rows) (h : acceptedIn .setPixels r) :
      CommandOutcome (.setPixels rows) r (r.clearFresh.setPixels rows) []
  /-- 44_serializer.md R206 with a valid frame -/
  | refresh {r} (h : acceptedIn .refresh r) (hvalid : r.frameValid = true) :
      CommandOutcome .refresh r r.clearFresh (renderEvents r)
  /-- R207 with a valid frame -/
  | refreshWait {r} (us) (h : acceptedIn .refreshWait r) (hvalid : r.frameValid = true) :
      CommandOutcome (.refreshWait us) r r.clearFresh (renderEvents r ++ [.delay us])
  /-- 40_lifecycle.md R121 with a valid frame and every route resolved -/
  | shutdown {r} (h : acceptedIn .shutdown r) (hvalid : r.frameValid = true) (hroute : allResolved r.route = true) :
      CommandOutcome .shutdown r { r.clearFresh.setPixels allOff with phase := .dead }
        (renderEvents (r.clearFresh.setPixels allOff))
  /-- R121 from a valid frame over an unresolved route, where no run leads (log 17): the cleared frame faults -/
  | shutdownUnresolved {r} (h : acceptedIn .shutdown r) (hvalid : r.frameValid = true)
      (hroute : allResolved r.route = false) :
      CommandOutcome .shutdown r ((r.clearFresh.setPixels allOff).takeFault .faultUnresolved) []
  /-- R205, R121: a command that renders meets an invalid frame -/
  | renderFault {i r} (hi : i.op ∈ [Op.refresh, .refreshWait, .shutdown]) (h : acceptedIn i.op r)
      (hinvalid : r.frameValid = false) :
      CommandOutcome i r (r.clearFresh.takeFault .faultUnresolved) []

/-- The state a command leaves: new registers, and its events presented after those already there. -/
def State.afterCommand (r : Regs) (es : List Event) (s : State) : State :=
  { s with regs := r, pending := s.pending ++ es }

@[simp] theorem State.afterCommand_regs (r : Regs) (es : List Event) (s : State) : (s.afterCommand r es).regs = r := rfl
@[simp] theorem State.afterCommand_pending (r : Regs) (es : List Event) (s : State) :
    (s.afterCommand r es).pending = s.pending ++ es := rfl

theorem State.mapRegs_eq_afterCommand (f : Regs → Regs) (s : State) : s.mapRegs f = s.afterCommand (f s.regs) [] := by
  simp [State.mapRegs, State.afterCommand]

theorem countLegal_iff (n : Count) : countLegal n = true ↔ n.toNat ≤ 8 := by simp [countLegal]

/-- Every command ends in one of the listed ways. -/
theorem CommandOutcome.total (i : Instr) (r : Regs) : ∃ r' es, CommandOutcome i r r' es := by
  by_cases h : acceptedIn i.op r
  · cases i with
    | cfgShiftPins data sclk latch => exact ⟨_, _, .cfgShiftPins data sclk latch h⟩
    | cfgHardPins pins => exact ⟨_, _, .cfgHardPins pins h⟩
    | cfgHardRc rc => exact ⟨_, _, .cfgHardRc rc h⟩
    | cfgShiftRc rc => exact ⟨_, _, .cfgShiftRc rc h⟩
    | cfgShiftOff off => exact ⟨_, _, .cfgShiftOff off h⟩
    | cfgCounts hn sn =>
      by_cases hc : hn.toNat ≤ 8 ∧ sn.toNat ≤ 8
      · exact ⟨_, _, .cfgCounts hn sn h hc⟩
      · exact ⟨_, _, .illegalCounts hn sn h (by omega)⟩
    | construct rows => exact ⟨_, _, .construct rows h⟩
    | flip =>
      by_cases hc : r.wiring.hardN = r.wiring.shiftN
      · exact ⟨_, _, .flip h hc⟩
      · exact ⟨_, _, .flipMismatch h hc⟩
    | setPixels rows => exact ⟨_, _, .setPixels rows h⟩
    | refresh =>
      cases hv : r.frameValid with
      | true => exact ⟨_, _, .refresh h hv⟩
      | false => exact ⟨_, _, .renderFault (by decide) h hv⟩
    | refreshWait us =>
      cases hv : r.frameValid with
      | true => exact ⟨_, _, .refreshWait us h hv⟩
      | false => exact ⟨_, _, .renderFault (by simp [Instr.op]) h hv⟩
    | shutdown =>
      cases hv : r.frameValid with
      | true =>
        cases hr : allResolved r.route with
        | true => exact ⟨_, _, .shutdown h hv hr⟩
        | false => exact ⟨_, _, .shutdownUnresolved h hv hr⟩
      | false => exact ⟨_, _, .renderFault (by decide) h hv⟩
  · exact ⟨_, _, .turnedAway h⟩

/-- Each listed way of an accepted command is its effect, in every state with these registers. -/
theorem CommandOutcome.acceptedEffect_eq {i : Instr} {r' : Regs} {es : List Event} {s : State}
    (ho : CommandOutcome i s.regs r' es) (hacc : acceptedIn i.op s.regs) :
    acceptedEffect i s = .next (s.afterCommand r' es) := by
  generalize hr : s.regs = r at ho hacc
  cases ho with
  | turnedAway h => exact absurd hacc h
  | cfgShiftPins | cfgHardPins | cfgHardRc | cfgShiftRc | cfgShiftOff | construct | setPixels =>
    subst hr
    simp [acceptedEffect, State.mapRegs, State.emit, State.afterCommand]
  | cfgCounts _ _ _ hlegal =>
    subst hr
    simp [acceptedEffect, State.mapRegs_eq_afterCommand, countLegal_iff, hlegal]
  | illegalCounts hn sn _ hillegal =>
    subst hr
    have hc : ¬ (countLegal hn && countLegal sn) = true := by
      rw [Bool.and_eq_true, countLegal_iff, countLegal_iff]
      omega
    rw [acceptedEffect, if_neg hc, reject, State.setStatus, State.mapRegs_eq_afterCommand]
  | flip _ heq | flipMismatch _ heq =>
    subst hr
    simp [acceptedEffect, State.mapRegs, State.emit, State.setStatus, State.afterCommand, heq]
  | refresh _ hvalid | refreshWait _ _ hvalid =>
    subst hr
    simp [acceptedEffect, renderFrame, hvalid, State.mapRegs, State.emit, State.afterCommand, renderEvents]
  | shutdown _ hvalid hroute | shutdownUnresolved _ hvalid hroute =>
    subst hr
    simp [acceptedEffect, hvalid, renderFrame, compile_snd, hroute, State.mapRegs, State.emit, State.afterCommand, takeFault]
  | renderFault hi _ hinvalid =>
    subst hr
    cases i <;> simp [Instr.op] at hi <;>
      simp [acceptedEffect, renderFrame, takeFault, hinvalid, State.mapRegs, State.afterCommand]

/-- A command its phase turns away only sets ERR_STATE (60_exceptions.md R251). -/
theorem CommandOutcome.eq_setStatus_of_not_acceptedIn {i : Instr} {r r' : Regs} {es : List Event}
    (ho : CommandOutcome i r r' es) (hacc : ¬ acceptedIn i.op r) : r' = r.setStatus .errState ∧ es = [] := by
  cases ho with
  | turnedAway => exact ⟨rfl, rfl⟩
  | renderFault _ h => exact absurd h hacc
  | _ => exact absurd ‹acceptedIn _ _› hacc

/-- Each listed way is what the command does, in every state with these registers. -/
theorem CommandOutcome.exec_eq {i : Instr} {r' : Regs} {es : List Event} {s : State}
    (ho : CommandOutcome i s.regs r' es) : exec i s = .next (s.afterCommand r' es) := by
  by_cases hacc : acceptedIn i.op s.regs
  · rw [exec_of_accepts (accepts_iff_acceptedIn.2 hacc), ho.acceptedEffect_eq hacc]
  · rw [exec_of_not_accepts (by simpa using mt accepts_iff_acceptedIn.1 hacc)]
    obtain ⟨rfl, rfl⟩ := ho.eq_setStatus_of_not_acceptedIn hacc
    rw [State.setStatus, State.mapRegs_eq_afterCommand]

/-- A command answers next exactly with the state of one of its outcomes, a function of the registers alone. -/
theorem exec_eq_next_iff_outcome {i : Instr} {s t : State} :
    exec i s = .next t ↔ ∃ r' es, CommandOutcome i s.regs r' es ∧ t = s.afterCommand r' es := by
  constructor
  · intro h
    obtain ⟨r', es, ho⟩ := CommandOutcome.total i s.regs
    rw [ho.exec_eq] at h
    exact ⟨r', es, ho, by simpa using h.symm⟩
  · rintro ⟨r', es, ho, rfl⟩
    exact ho.exec_eq

end Sys2Proof.Machine
end

section
/-!
PROOFS of the family 10_state, the registers: which command changes each of them and how, and which cause sets which STATUS
bit (10_state.md R40, 60_exceptions.md R258).
-/
namespace Sys2Proof.Machine

open Sys2Proof.Claims

/-- The registers with STATUS at `x`. -/
def Regs.withStatus (x : BitVec 8) (r : Regs) : Regs := { r with status := x }

section
variable (x : BitVec 8) (r : Regs)

@[simp] theorem Regs.withStatus_status : (r.withStatus x).status = x := rfl
@[simp] theorem Regs.withStatus_fresh : (r.withStatus x).fresh = r.fresh := rfl
@[simp] theorem Regs.withStatus_wiring : (r.withStatus x).wiring = r.wiring := rfl

/-! The updates a command is made of, each carried past a change of STATUS. -/

@[simp] theorem Regs.setStatus_withStatus (c : Cause) :
    (r.withStatus x).setStatus c = (r.setStatus c).withStatus (x ||| c.mask) := rfl
@[simp] theorem Regs.clearFresh_withStatus : (r.withStatus x).clearFresh = r.clearFresh.withStatus x := rfl

@[simp] theorem constructEvents_withStatus : constructEvents (r.withStatus x) = constructEvents r := rfl

@[simp] theorem Regs.setStatusIf_withStatus (b : Bool) (c : Cause) :
    (r.withStatus x).setStatusIf b c = (r.setStatusIf b c).withStatus (x ||| if b then c.mask else 0) := by
  cases b
  · simp [Regs.setStatusIf]
  · rfl

@[simp] theorem Regs.rebuildRoutes_withStatus :
    (r.withStatus x).rebuildRoutes = r.rebuildRoutes.withStatus (x ||| routeWarnings r.wiring) := by
  change Regs.setStatusIf _ _ (Regs.setStatusIf _ _ (Regs.withStatus x { r with route := buildRoutes r.wiring })) = _
  rw [Regs.setStatusIf_withStatus, Regs.setStatusIf_withStatus, BitVec.or_assoc]
  rfl

@[simp] theorem Regs.flip_withStatus :
    (r.withStatus x).flip = r.flip.withStatus (x ||| routeWarnings r.wiring.flipped) := by
  change Regs.recompile (Regs.rebuildRoutes
    (Regs.withStatus x { r with wiring := r.wiring.flipped, flipped := !r.flipped })) = _
  rw [Regs.rebuildRoutes_withStatus]
  rfl

@[simp] theorem Regs.construct_withStatus (rows : Vector Byte 8) :
    (r.withStatus x).construct rows = (r.construct rows).withStatus (x ||| routeWarnings r.wiring) := by
  rw [Regs.construct, Regs.rebuildRoutes_withStatus]
  rfl
end

namespace CommandOutcome

variable {i : Instr} {r r' : Regs} {es : List Event}

/-! ## PHASE and FRESH -/

/-- PHASE stays, or follows one of the edges of the lifecycle (10_state.md R22). -/
theorem phase_cases (ho : CommandOutcome i r r' es) :
    r'.phase = r.phase ∨ (i.op = .construct ∧ acceptedIn .construct r ∧ r'.phase = .ready) ∨
      (i.op = .shutdown ∧ r.phase = .ready ∧ r'.phase = .dead) ∨
      (i.op ∈ [Op.refresh, .refreshWait, .shutdown] ∧ r.phase = .ready ∧ r'.phase = .fault ∧
        r'.status.getLsbD 7 = true) := by
  cases ho with
  | construct rows h => exact .inr (.inl ⟨rfl, h, by simp⟩)
  | shutdown h => exact .inr (.inr (.inl ⟨rfl, phase_of_acceptedIn_ready h (by decide), rfl⟩))
  | shutdownUnresolved h =>
    exact .inr (.inr (.inr ⟨by decide, phase_of_acceptedIn_ready h (by decide), rfl, by simp [Cause.code]⟩))
  | renderFault hi h =>
    have hready : ∀ o ∈ [Op.refresh, .refreshWait, .shutdown], o ∈ readyOps := by decide
    exact .inr (.inr (.inr ⟨hi, phase_of_acceptedIn_ready h (hready _ hi), rfl, by simp [Cause.code]⟩))
  | _ => exact .inl (by simp)

/-- FRESH: 1 by CONSTRUCT, 0 by another command accepted in READY, kept by every other one (R23). -/
theorem fresh_cases (ho : CommandOutcome i r r' es) :
    (i.op = .construct ∧ acceptedIn i.op r ∧ r'.fresh = true) ∨
      (i.op ≠ .construct ∧ acceptedIn i.op r ∧ r.phase = .ready ∧ r'.fresh = false) ∨
      (¬ (acceptedIn i.op r ∧ (i.op = .construct ∨ r.phase = .ready)) ∧ r'.fresh = r.fresh) := by
  cases ho with
  | turnedAway h => exact .inr (.inr ⟨fun ha => h ha.1, rfl⟩)
  | construct rows h => exact .inl ⟨rfl, h, by simp⟩
  | cfgShiftPins _ _ _ h | cfgHardPins _ h | cfgHardRc _ h | cfgShiftRc _ h | cfgShiftOff _ h | cfgCounts _ _ h
  | illegalCounts _ _ h =>
    have hp := phase_of_acceptedIn_config h (by decide)
    exact .inr (.inr ⟨by simp [Instr.op, hp], by simp⟩)
  | flip h | flipMismatch h | setPixels _ h | refresh h | refreshWait _ h | shutdown h | shutdownUnresolved h =>
    exact .inr (.inl ⟨nofun, h, phase_of_acceptedIn_ready h (by decide), by simp⟩)
  | renderFault hi h =>
    have hready : ∀ o ∈ [Op.refresh, .refreshWait, .shutdown], o ≠ .construct ∧ o ∈ readyOps := by decide
    exact .inr (.inl ⟨(hready _ hi).1, h, phase_of_acceptedIn_ready h (hready _ hi).2, by simp⟩)

/-! ## The other registers -/

theorem flipped_cases (ho : CommandOutcome i r r' es) :
    r'.flipped = r.flipped ∨ (i.op = .construct ∧ r'.flipped = false) ∨
      (i.op = .flip ∧ r.wiring.hardN = r.wiring.shiftN) := by
  cases ho with
  | construct => exact .inr (.inl ⟨rfl, by simp⟩)
  | flip _ heq => exact .inr (.inr ⟨rfl, heq⟩)
  | _ => exact .inl (by simp)

theorem spWritten_cases (ho : CommandOutcome i r r' es) :
    r'.spWritten = r.spWritten ∨ (i.op = .cfgShiftPins ∧ r'.spWritten = true) := by
  cases ho with
  | cfgShiftPins => exact .inr ⟨rfl, rfl⟩
  | _ => exact .inl (by simp)

theorem hpWritten_cases (ho : CommandOutcome i r r' es) :
    r'.hpWritten = r.hpWritten ∨ (i.op = .cfgHardPins ∧ r'.hpWritten = true) := by
  cases ho with
  | cfgHardPins => exact .inr ⟨rfl, rfl⟩
  | _ => exact .inl (by simp)

theorem shiftPins_cases (ho : CommandOutcome i r r' es) : r'.shiftPins = r.shiftPins ∨ i.op = .cfgShiftPins := by
  cases ho with
  | cfgShiftPins => exact .inr rfl
  | _ => exact .inl (by simp)

theorem hardPins_cases (ho : CommandOutcome i r r' es) :
    r'.wiring.hardPins = r.wiring.hardPins ∨ i.op = .cfgHardPins := by
  cases ho with
  | cfgHardPins => exact .inr rfl
  | _ => exact .inl (by simp)

theorem hardRc_cases (ho : CommandOutcome i r r' es) :
    r'.wiring.hardRc = r.wiring.hardRc ∨ i.op ∈ [Op.cfgHardRc, .flip] := by
  cases ho with
  | cfgHardRc | flip => exact .inr (by simp [Instr.op])
  | _ => exact .inl (by simp)

theorem shiftRc_cases (ho : CommandOutcome i r r' es) :
    r'.wiring.shiftRc = r.wiring.shiftRc ∨ i.op ∈ [Op.cfgShiftRc, .flip] := by
  cases ho with
  | cfgShiftRc | flip => exact .inr (by simp [Instr.op])
  | _ => exact .inl (by simp)

theorem shiftOff_cases (ho : CommandOutcome i r r' es) :
    r'.wiring.shiftOff = r.wiring.shiftOff ∨ i.op ∈ [Op.cfgShiftOff, .flip] := by
  cases ho with
  | cfgShiftOff | flip => exact .inr (by simp [Instr.op])
  | _ => exact .inl (by simp)

/-- The counts change only by CFG_COUNTS, and then to legal ones (R34). -/
theorem counts_cases (ho : CommandOutcome i r r' es) :
    (r'.wiring.hardN = r.wiring.hardN ∧ r'.wiring.shiftN = r.wiring.shiftN) ∨
      (i.op = .cfgCounts ∧ countsLegal r'.wiring) := by
  cases ho with
  | cfgCounts _ _ _ hlegal => exact .inr ⟨rfl, hlegal⟩
  | _ => exact .inl (by simp)

/-- PATTERN follows PIXELS: both stay, or the command writes a bitmap (R35, R36). -/
theorem pixels_cases (ho : CommandOutcome i r r' es) :
    (r'.pixels = r.pixels ∧ r'.pattern = r.pattern) ∨ i.op ∈ [Op.construct, .setPixels, .shutdown] := by
  cases ho with
  | construct | setPixels | shutdown | shutdownUnresolved => exact .inr (by simp [Instr.op])
  | _ => exact .inl (by simp)

theorem route_cases (ho : CommandOutcome i r r' es) :
    r'.route = r.route ∨ i.op = .construct ∨ (i.op = .flip ∧ r.wiring.hardN = r.wiring.shiftN) := by
  cases ho with
  | construct => exact .inr (.inl rfl)
  | flip _ heq => exact .inr (.inr ⟨rfl, heq⟩)
  | _ => exact .inl (by simp)

theorem frame_cases (ho : CommandOutcome i r r' es) :
    (r'.frame = r.frame ∧ r'.frameValid = r.frameValid) ∨ i.op ∈ [Op.construct, .setPixels, .shutdown] ∨
      (i.op = .flip ∧ r.wiring.hardN = r.wiring.shiftN) := by
  cases ho with
  | construct | setPixels | shutdown | shutdownUnresolved => exact .inr (.inl (by simp [Instr.op]))
  | flip _ heq => exact .inr (.inr ⟨rfl, heq⟩)
  | _ => exact .inl (by simp)

/-! ## STATUS -/

/-- A command that writes no STATUS bit sets none from any STATUS, when it ends the same way from each. -/
theorem exists_newBits_of_none (hs : r'.status = r.status)
    (h : ∀ x, CommandOutcome i (r.withStatus x) (r'.withStatus x) es) :
    ∃ d, r'.status = r.status ||| d ∧ ∀ x, CommandOutcome i (r.withStatus x) (r'.withStatus (x ||| d)) es :=
  ⟨0, by simp [hs], fun x => by simpa using h x⟩

/-- From any STATUS a command ends the same way and sets the same bits (10_state.md R28, 60_exceptions.md R257). -/
theorem exists_newBits (ho : CommandOutcome i r r' es) :
    ∃ d, r'.status = r.status ||| d ∧ ∀ x, CommandOutcome i (r.withStatus x) (r'.withStatus (x ||| d)) es := by
  cases ho with
  | turnedAway h => exact ⟨Cause.errState.mask, by simp, fun x => .turnedAway h⟩
  | cfgShiftPins data sclk latch h => exact exists_newBits_of_none rfl fun x => .cfgShiftPins data sclk latch h
  | cfgHardPins pins h => exact exists_newBits_of_none rfl fun x => .cfgHardPins pins h
  | cfgHardRc rc h => exact exists_newBits_of_none rfl fun x => .cfgHardRc rc h
  | cfgShiftRc rc h => exact exists_newBits_of_none rfl fun x => .cfgShiftRc rc h
  | cfgShiftOff off h => exact exists_newBits_of_none rfl fun x => .cfgShiftOff off h
  | cfgCounts hn sn h hlegal => exact exists_newBits_of_none rfl fun x => .cfgCounts hn sn h hlegal
  | illegalCounts hn sn h hillegal => exact ⟨Cause.errValue.mask, by simp, fun x => .illegalCounts hn sn h hillegal⟩
  | construct rows h =>
    refine ⟨routeWarnings r.wiring, by simp, fun x => ?_⟩
    simpa using CommandOutcome.construct (r := r.withStatus x) rows h
  | flip h heq =>
    refine ⟨(if !r.fresh then Cause.warnLateFlip.mask else 0) ||| routeWarnings r.wiring.flipped,
      by simp [BitVec.or_assoc], fun x => ?_⟩
    simpa [BitVec.or_assoc] using CommandOutcome.flip (r := r.withStatus x) h heq
  | flipMismatch h hne =>
    refine ⟨(if !r.fresh then Cause.warnLateFlip.mask else 0) ||| Cause.errFlipMismatch.mask,
      by simp [BitVec.or_assoc], fun x => ?_⟩
    simpa [BitVec.or_assoc] using CommandOutcome.flipMismatch (r := r.withStatus x) h hne
  | setPixels rows h => exact exists_newBits_of_none rfl fun x => .setPixels rows h
  | refresh h hvalid => exact exists_newBits_of_none rfl fun x => .refresh h hvalid
  | refreshWait us h hvalid => exact exists_newBits_of_none rfl fun x => .refreshWait us h hvalid
  | shutdown h hvalid hroute => exact exists_newBits_of_none rfl fun x => .shutdown h hvalid hroute
  | shutdownUnresolved h hvalid hroute =>
    exact ⟨Cause.faultUnresolved.mask, by simp, fun x => .shutdownUnresolved h hvalid hroute⟩
  | renderFault hi h hinvalid => exact ⟨Cause.faultUnresolved.mask, by simp, fun x => .renderFault hi h hinvalid⟩

/-- No command clears a STATUS bit (10_state.md R27). -/
theorem status_sticky (ho : CommandOutcome i r r' es) {k : Nat} (hk : r.status.getLsbD k = true) :
    r'.status.getLsbD k = true := by
  obtain ⟨d, hd, -⟩ := ho.exists_newBits
  simp [hd, hk]

/-- A STATUS bit that a command newly sets is one of its causes (60_exceptions.md R258). -/
theorem causedBy_of_newBit (ho : CommandOutcome i r r' es) {s t : State} (hs : s.regs = r) (ht : t.regs = r') {k : Nat}
    (h0 : r.status.getLsbD k = false) (h1 : r'.status.getLsbD k = true) : causedBy i s t k := by
  simp only [causedBy, hs, ht]
  cases ho with
  | turnedAway h => exact .inl ⟨by simpa [h0, Cause.code] using h1, h⟩
  | illegalCounts hn sn h hillegal =>
    exact .inr (.inl ⟨by simpa [h0, Cause.code] using h1, h, hn, sn, rfl, hillegal⟩)
  | construct rows h =>
    have hw : (routeWarnings r.wiring).getLsbD k = true := by simpa [h0] using h1
    obtain ⟨hk, hp⟩ | ⟨hk, hp⟩ := routeWarnings_getLsbD hw
    · exact .inr (.inr (.inr (.inr (.inl ⟨hk, h, by simp [Instr.op], by simpa using hp⟩))))
    · exact .inr (.inr (.inr (.inr (.inr (.inl ⟨hk, h, by simp [Instr.op], by simpa using hp⟩)))))
  | flip h heq =>
    have hbit : (k = 4 ∧ r.fresh = false) ∨ (routeWarnings r.wiring.flipped).getLsbD k = true := by
      cases hf : r.fresh <;> simpa [h0, hf, Cause.code] using h1
    obtain ⟨hk, hf⟩ | hw := hbit
    · exact .inr (.inr (.inr (.inl ⟨hk, h, rfl, hf⟩)))
    · obtain ⟨hk, hp⟩ | ⟨hk, hp⟩ := routeWarnings_getLsbD hw
      · exact .inr (.inr (.inr (.inr (.inl ⟨hk, h, by simp [Instr.op], by simpa using hp⟩))))
      · exact .inr (.inr (.inr (.inr (.inr (.inl ⟨hk, h, by simp [Instr.op], by simpa using hp⟩)))))
  | flipMismatch h hne =>
    have hbit : (k = 4 ∧ r.fresh = false) ∨ k = 3 := by
      cases hf : r.fresh <;> simpa [h0, hf, Cause.code] using h1
    obtain ⟨hk, hf⟩ | hk := hbit
    · exact .inr (.inr (.inr (.inl ⟨hk, h, rfl, hf⟩)))
    · exact .inr (.inr (.inl ⟨hk, h, rfl, hne⟩))
  | shutdownUnresolved h _ hroute =>
    refine .inr (.inr (.inr (.inr (.inr (.inr ⟨by simpa [h0, Cause.code] using h1, h, by decide, ?_, rfl⟩)))))
    simp [compile_snd, hroute]
  | renderFault hi h hinvalid =>
    exact .inr (.inr (.inr (.inr (.inr (.inr ⟨by simpa [h0, Cause.code] using h1, h, hi, hinvalid, rfl⟩)))))
  | _ => simp [h0] at h1

end CommandOutcome

end Sys2Proof.Machine
end

section
/-!
PROOFS of the family 10_state, the steps: what a step does to the registers, that the environment's state steers none of it,
and the invariant of 10_state.md R34, R39 clause by clause.
-/
namespace Sys2Proof.Machine

open Sys2Proof.Claims

/-! ## Steps -/

/-- A step that is not a reset keeps the registers and presents nothing new, or an idle block takes a word: it rejects one
that is no command, or runs the command (60_exceptions.md R254). -/
theorem step_regs_cases {s t : State} (hstep : step s = .next t) (hreset : s.inputs.head? ≠ some .reset) :
    (t.regs = s.regs ∧ (t.pending ≠ [] → s.pending ≠ [])) ∨
      (∃ w rest, s.inputs = .command w :: rest ∧ s.pending = [] ∧
        (t.regs = s.regs.setStatus .errIllegal ∧ t.pending = [] ∨
          ∃ i, decode w = .ok i ∧ CommandOutcome i s.regs t.regs t.pending)) := by
  have hnot : ∀ rest, s.inputs ≠ .reset :: rest := fun rest h => hreset (by rw [h]; rfl)
  obtain ⟨rfl, -⟩ | ⟨w, rest, hin, hidle, hrun⟩ | ⟨a, rest, -, hidle, rfl⟩ | ⟨rest, hin, -⟩ | ⟨rest, -, rfl⟩ |
    ⟨rest, -, rfl⟩ := step_cases hstep
  · exact .inl ⟨by simp, mt fun h => by simp [h]⟩
  · refine .inr ⟨w, rest, hin, hidle, ?_⟩
    obtain ⟨-, rfl⟩ | ⟨i, hdec, hexec⟩ := runWord_eq_next.1 hrun
    · exact .inl ⟨rfl, hidle⟩
    · obtain ⟨r', es, ho, rfl⟩ := exec_eq_next_iff_outcome.1 hexec
      exact .inr ⟨i, hdec, by simpa [hidle] using ho⟩
  · exact .inl ⟨rfl, id⟩
  · exact absurd hin (hnot rest)
  · exact .inl ⟨by simp, mt fun h => by simp [h]⟩
  · exact .inl ⟨rfl, id⟩

theorem step_of_reset {s : State} {rest : List Input} (hin : s.inputs = .reset :: rest) :
    step s = .next (State.applyReset { s with inputs := rest }) := by
  simp [step, takeMove, hin]

/-! ## The environment steers nothing (10_state.md R41) -/

theorem sameCore_acceptEvent {s u : State} (h : sameCore s u) : sameCore s.acceptEvent u.acceptEvent := by
  obtain ⟨hregs, hpending, htrace, hinputs, hanswers⟩ := h
  refine ⟨by simpa, by simp [hpending], ?_, by simpa, by simpa⟩
  cases hp : u.pending <;> simp [State.acceptEvent, hpending, hp, htrace]

/-- A command does the same from two states that agree but for the environment. -/
theorem exec_sameCore {i : Instr} {s u t : State} (h : sameCore s u) (hexec : exec i s = .next t) :
    ∃ v, exec i u = .next v ∧ sameCore t v := by
  obtain ⟨hregs, hpending, htrace, hinputs, hanswers⟩ := h
  obtain ⟨r', es, ho, rfl⟩ := exec_eq_next_iff_outcome.1 hexec
  exact ⟨u.afterCommand r' es, (hregs ▸ ho).exec_eq, rfl, by simp [hpending], htrace, hinputs, hanswers⟩

theorem runWord_sameCore {w : CmdWord} {s u t : State} (h : sameCore s u) (hrun : runWord w s = .next t) :
    ∃ v, runWord w u = .next v ∧ sameCore t v := by
  obtain ⟨he, rfl⟩ | ⟨i, hdec, hexec⟩ := runWord_eq_next.1 hrun
  · obtain ⟨hregs, hrest⟩ := h
    exact ⟨u.setStatus .errIllegal, runWord_eq_next.2 (.inl ⟨he, rfl⟩), by simp [hregs], hrest⟩
  · obtain ⟨v, hv, hc⟩ := exec_sameCore h hexec
    exact ⟨v, runWord_eq_next.2 (.inr ⟨i, hdec, hv⟩), hc⟩

theorem sameCore_withInputs {s u : State} (h : sameCore s u) (rest : List Input) :
    sameCore { s with inputs := rest } { u with inputs := rest } := by
  obtain ⟨hregs, hpending, htrace, -, hanswers⟩ := h
  exact ⟨hregs, hpending, htrace, rfl, hanswers⟩

theorem sameCore_answerRead {s u : State} (h : sameCore s u) (a : BitVec 8) :
    sameCore (answerRead a s) (answerRead a u) := by
  obtain ⟨hregs, hpending, htrace, hinputs, hanswers⟩ := h
  exact ⟨hregs, hpending, htrace, hinputs, by simp [hregs, hanswers]⟩

theorem sameCore_applyReset {s u : State} (h : sameCore s u) : sameCore s.applyReset u.applyReset := by
  obtain ⟨-, -, htrace, hinputs, hanswers⟩ := h
  exact ⟨rfl, rfl, htrace, hinputs, hanswers⟩

/-- A step does the same from two states that agree but for the environment. -/
theorem step_sameCore {s u t : State} (h : sameCore s u) (hstep : step s = .next t) :
    ∃ v, step u = .next v ∧ sameCore t v := by
  obtain ⟨-, hpending, -, hinputs, -⟩ := id h
  have hbusy : s.busy = u.busy := by simp [State.busy, hpending]
  have haccept : ∃ v, Host.Outcome.next u.acceptEvent = (.next v : Result) ∧ sameCore s.acceptEvent v :=
    ⟨_, rfl, sameCore_acceptEvent h⟩
  unfold step takeMove at hstep ⊢
  rw [hinputs, hbusy] at hstep
  cases hin : u.inputs with
  | nil =>
    obtain rfl : s.acceptEvent = t := by simpa [hin] using hstep
    exact haccept
  | cons m rest =>
    have hrest := sameCore_withInputs h rest
    cases m with
    | command w =>
      cases hb : u.busy with
      | true =>
        obtain rfl : s.acceptEvent = t := by simpa [hin, hb] using hstep
        exact haccept
      | false => exact runWord_sameCore hrest (by simpa [hin, hb] using hstep)
    | readback a =>
      cases hb : u.busy with
      | true =>
        obtain rfl : s.acceptEvent = t := by simpa [hin, hb] using hstep
        exact haccept
      | false =>
        obtain rfl : answerRead a { s with inputs := rest } = t := by simpa [hin, hb] using hstep
        exact ⟨_, rfl, sameCore_answerRead hrest a⟩
    | reset =>
      obtain rfl : State.applyReset { s with inputs := rest } = t := by simpa [hin] using hstep
      exact ⟨_, rfl, sameCore_applyReset hrest⟩
    | accept =>
      obtain rfl : State.acceptEvent { s with inputs := rest } = t := by simpa [hin] using hstep
      exact ⟨_, rfl, sameCore_acceptEvent hrest⟩
    | stall =>
      obtain rfl : { s with inputs := rest } = t := by simpa [hin] using hstep
      exact ⟨_, rfl, hrest⟩

/-! ## The invariant -/

namespace CommandOutcome

variable {i : Instr} {r r' : Regs} {es : List Event}

theorem keeps_countsLegal (ho : CommandOutcome i r r' es) (h : countsLegal r.wiring) : countsLegal r'.wiring := by
  obtain ⟨hhard, hshift⟩ | ⟨-, hlegal⟩ := ho.counts_cases
  · rwa [countsLegal, hhard, hshift]
  · exact hlegal

theorem keeps_cachesConsistent (ho : CommandOutcome i r r' es)
    (h : r.phase = .ready ∨ r.phase = .dead → cachesConsistent r) (hp : r'.phase = .ready ∨ r'.phase = .dead) :
    cachesConsistent r' := by
  cases ho with
  | turnedAway => exact h hp
  | cfgShiftPins _ _ _ ha | cfgHardPins _ ha | cfgHardRc _ ha | cfgShiftRc _ ha | cfgShiftOff _ ha | cfgCounts _ _ ha
  | illegalCounts _ _ ha =>
    simp [phase_of_acceptedIn_config ha (by decide)] at hp
  | construct => exact ⟨by simp, by simp, by simp⟩
  | flip ha =>
    obtain ⟨-, hpattern, -⟩ := h (.inl (phase_of_acceptedIn_ready ha (by decide)))
    exact ⟨by simp, by simp [hpattern], by simp⟩
  | flipMismatch ha | refresh ha | refreshWait _ ha =>
    have hc := h (.inl (phase_of_acceptedIn_ready ha (by decide)))
    simpa [cachesConsistent] using hc
  | setPixels _ ha | shutdown ha =>
    obtain ⟨hroute, -, -⟩ := h (.inl (phase_of_acceptedIn_ready ha (by decide)))
    exact ⟨hroute, rfl, rfl⟩
  | shutdownUnresolved | renderFault => simp at hp

theorem keeps_blankWhenDead (ho : CommandOutcome i r r' es) (h : r.phase = .dead → r.pixels = allOff)
    (hp : r'.phase = .dead) : r'.pixels = allOff := by
  cases ho with
  | turnedAway => exact h hp
  | shutdown => rfl
  | construct | shutdownUnresolved | renderFault => simp at hp
  | _ => exact absurd (by simpa using hp) (phase_ne_dead_of_acceptedIn ‹acceptedIn _ r›)

theorem keeps_written (ho : CommandOutcome i r r' es)
    (h : r.phase ≠ .unconfigured → r.spWritten = true ∧ r.hpWritten = true) (hp : r'.phase ≠ .unconfigured) :
    r'.spWritten = true ∧ r'.hpWritten = true := by
  have hboth : r.spWritten = true ∧ r.hpWritten = true := by
    obtain hsame | ⟨-, ha, -⟩ | ⟨-, hready, -⟩ | ⟨-, hready, -⟩ := ho.phase_cases
    · exact h (hsame ▸ hp)
    · exact (acceptedIn_construct.1 ha).2
    · exact h (by simp [hready])
    · exact h (by simp [hready])
  refine ⟨?_, ?_⟩
  · obtain hsame | ⟨-, hset⟩ := ho.spWritten_cases
    · rw [hsame, hboth.1]
    · exact hset
  · obtain hsame | ⟨-, hset⟩ := ho.hpWritten_cases
    · rw [hsame, hboth.2]
    · exact hset

/-- The fault bit is newly set only by the fault (60_exceptions.md R256). -/
theorem phase_of_new_faultBit (ho : CommandOutcome i r r' es) (h0 : r.status.getLsbD 7 = false)
    (h1 : r'.status.getLsbD 7 = true) : r'.phase = .fault := by
  have hcause := ho.causedBy_of_newBit (s := State.reset.afterCommand r []) (t := State.reset.afterCommand r' [])
    rfl rfl h0 h1
  simp only [causedBy, Nat.reduceEqDiff, false_and, false_or, true_and] at hcause
  obtain ⟨-, -, -, hfault⟩ := hcause
  exact hfault

theorem keeps_faultBit (ho : CommandOutcome i r r' es)
    (h : r.phase = .fault ↔ r.statusBit .faultUnresolved = true) :
    r'.phase = .fault ↔ r'.statusBit .faultUnresolved = true := by
  change r.phase = .fault ↔ r.status.getLsbD 7 = true at h
  change r'.phase = .fault ↔ r'.status.getLsbD 7 = true
  constructor
  · intro hp
    obtain hsame | ⟨-, -, hready⟩ | ⟨-, -, hdead⟩ | ⟨-, -, -, hbit⟩ := ho.phase_cases
    · exact ho.status_sticky (h.1 (hsame ▸ hp))
    · simp [hready] at hp
    · simp [hdead] at hp
    · exact hbit
  · intro hbit
    cases h0 : r.status.getLsbD 7 with
    | false => exact ho.phase_of_new_faultBit h0 hbit
    | true =>
      have hna : ¬ acceptedIn i.op r := fun ha => phase_ne_fault_of_acceptedIn ha (h.2 h0)
      rw [(ho.eq_setStatus_of_not_acceptedIn hna).1]
      exact h.2 h0

theorem keeps_freshReady (ho : CommandOutcome i r r' es) (h : r.fresh = true → r.phase = .ready)
    (hf : r'.fresh = true) : r'.phase = .ready := by
  cases ho with
  | construct => simp
  | flip | flipMismatch | setPixels | refresh | refreshWait | shutdown | shutdownUnresolved | renderFault => simp at hf
  | _ => exact h hf

/-- A command that presents events leaves the block in READY or DEAD. -/
theorem phase_of_events (ho : CommandOutcome i r r' es) (hes : es ≠ []) : r'.phase = .ready ∨ r'.phase = .dead := by
  cases ho with
  | construct => simp
  | flipMismatch ha | refresh ha | refreshWait _ ha => exact .inl (by simpa using phase_of_acceptedIn_ready ha (by decide))
  | shutdown => exact .inr rfl
  | _ => exact absurd rfl hes

end CommandOutcome

/-- The invariant speaks of the registers, and of the presented events only whether there are any. -/
theorem inv_congr {s t : State} (h : Inv s) (hregs : t.regs = s.regs) (hpending : t.pending ≠ [] → s.pending ≠ []) :
    Inv t := by
  obtain ⟨hcounts, hcaches, hblank, hwritten, hfault, hfresh, hpresented⟩ := h
  rw [← hregs] at hcounts hcaches hblank hwritten hfault hfresh hpresented
  exact ⟨hcounts, hcaches, hblank, hwritten, hfault, hfresh, fun hp => hpresented (hpending hp)⟩

/-- A command taken by an idle block keeps the invariant. -/
theorem inv_of_commandOutcome {i : Instr} {s t : State} (h : Inv s) (ho : CommandOutcome i s.regs t.regs t.pending) :
    Inv t where
  counts := ho.keeps_countsLegal h.counts
  caches := ho.keeps_cachesConsistent h.caches
  blankWhenDead := ho.keeps_blankWhenDead h.blankWhenDead
  written := ho.keeps_written h.written
  faultBit := ho.keeps_faultBit h.faultBit
  freshReady := ho.keeps_freshReady h.freshReady
  presented := ho.phase_of_events

/-- A word that is no command sets ERR_ILLEGAL, which no clause reads (60_exceptions.md R250). -/
theorem inv_setStatus_errIllegal {s t : State} (h : Inv s) (hregs : t.regs = s.regs.setStatus .errIllegal)
    (hpending : t.pending = []) : Inv t := by
  obtain ⟨hcounts, hcaches, hblank, hwritten, hfault, hfresh, -⟩ := h
  refine ⟨?_, ?_, ?_, ?_, ?_, ?_, fun hp => absurd hpending hp⟩ <;> rw [hregs]
  · exact hcounts
  · exact hcaches
  · exact hblank
  · exact hwritten
  · simpa [setStatus_statusBit] using hfault
  · exact hfresh

/-- The reset registers of an idle block meet the invariant (R43). -/
theorem inv_of_reset {s : State} (hregs : s.regs = Regs.reset) (hpending : s.pending = []) : Inv s := by
  refine ⟨?_, ?_, ?_, ?_, ?_, ?_, fun hp => absurd hpending hp⟩ <;> rw [hregs]
  · decide
  · exact fun hp => by simp [Regs.reset] at hp
  · exact nofun
  · exact fun hp => absurd rfl hp
  · decide
  · exact nofun

theorem step_keeps_inv {s t : State} (h : Inv s) (hstep : step s = .next t) : Inv t := by
  by_cases hreset : s.inputs.head? = some .reset
  · obtain ⟨rest, hin⟩ := List.head?_eq_some_iff.1 hreset
    obtain rfl : _ = t := by simpa [step_of_reset hin] using hstep
    exact inv_of_reset rfl rfl
  · obtain ⟨hregs, hpending⟩ | ⟨w, rest, -, -, ⟨hregs, hpending⟩ | ⟨i, -, ho⟩⟩ := step_regs_cases hstep hreset
    · exact inv_congr h hregs hpending
    · exact inv_setStatus_errIllegal h hregs hpending
    · exact inv_of_commandOutcome h ho

end Sys2Proof.Machine
end

section
/-!
PROOFS of the family 10_state: the obligations, each a short use of the lemmas above.
-/
namespace Sys2Proof.Machine

open Sys2Proof.Claims

/-- Settles O1: each register is what `State.reset` writes out. -/
theorem resetRegisterValues : Obligations.ResetRegisterValues := by
  refine ⟨rfl, rfl, rfl, rfl, rfl, rfl, rfl, rfl, rfl, rfl, fun i => ⟨?_, ?_, ?_, ?_⟩, rfl, rfl, fun i => ⟨?_, ?_⟩,
    fun p => ⟨?_, ?_, ?_, ?_⟩, rfl, rfl, rfl, rfl, rfl⟩ <;>
    simp [State.reset, Regs.reset, Wiring.reset, Slot.zero]

/-- Settles O59: the reset state is idle with the reset registers. -/
theorem resetMeetsTheInvariant : Obligations.ResetMeetsTheInvariant := inv_of_reset rfl rfl

/-- Settles O60, clause by clause over the ways a command ends (`inv_of_commandOutcome`). -/
theorem stepKeepsTheInvariant : Obligations.StepKeepsTheInvariant := fun _ _ => step_keeps_inv

/-- Settles O3: only a command changes PHASE, along one of the lifecycle's edges (`CommandOutcome.phase_cases`). -/
theorem phaseChangesOnlyAlongTheLifecycle : Obligations.PhaseChangesOnlyAlongTheLifecycle := by
  intro s t hstep hreset hne
  obtain ⟨hregs, -⟩ | ⟨w, rest, hin, hidle, ⟨hregs, -⟩ | ⟨i, hdec, ho⟩⟩ := step_regs_cases hstep hreset
  · exact absurd (by rw [hregs]) hne
  · exact absurd (by rw [hregs, Regs.setStatus_phase]) hne
  · refine ⟨w, rest, i, hin, hidle, hdec, ?_⟩
    obtain hsame | ⟨hi, ha, hready⟩ | hdead | hfault := ho.phase_cases
    · exact absurd hsame hne
    · exact .inl ⟨hi, (acceptedIn_construct.1 ha).1, hready⟩
    · exact .inr (.inl hdead)
    · exact .inr (.inr hfault)

/-- Settles O4: a step keeps STATUS, sets ERR_ILLEGAL, or runs a command, which clears no bit. -/
theorem statusBitsAreSticky : Obligations.StatusBitsAreSticky := by
  intro s t hstep hreset k hk
  obtain ⟨hregs, -⟩ | ⟨w, rest, -, -, ⟨hregs, -⟩ | ⟨i, -, ho⟩⟩ := step_regs_cases hstep hreset
  · rwa [hregs]
  · simp [hregs, hk]
  · exact ho.status_sticky hk

/-- Settles O48 from the three things a command does to FRESH (`CommandOutcome.fresh_cases`). -/
theorem freshMarksConstruct : Obligations.FreshMarksConstruct := by
  refine ⟨fun i s t hexec => ?_, fun s t hstep hreset hne => ?_⟩
  · obtain ⟨r', es, ho, rfl⟩ := exec_eq_next_iff_outcome.1 hexec
    obtain ⟨hi, ha, hf⟩ | ⟨hi, ha, hp, hf⟩ | ⟨hnot, hf⟩ := ho.fresh_cases
    · exact ⟨fun _ _ => hf, fun hni => absurd hi hni, fun hn => absurd ⟨ha, .inl hi⟩ hn⟩
    · exact ⟨fun h => absurd h hi, fun _ _ _ => hf, fun hn => absurd ⟨ha, .inr hp⟩ hn⟩
    · exact ⟨fun h ha => absurd ⟨ha, .inl h⟩ hnot, fun _ ha hp => absurd ⟨ha, .inr hp⟩ hnot, fun _ => hf⟩
  · obtain ⟨hregs, -⟩ | ⟨w, rest, hin, hidle, ⟨hregs, -⟩ | ⟨i, hdec, ho⟩⟩ := step_regs_cases hstep hreset
    · exact absurd (by rw [hregs]) hne
    · exact absurd (by rw [hregs, Regs.setStatus_fresh]) hne
    · refine ⟨w, rest, i, hin, hidle, hdec, ?_⟩
      obtain ⟨hi, ha, -⟩ | ⟨-, ha, hp, -⟩ | ⟨-, hsame⟩ := ho.fresh_cases
      · exact ⟨ha, .inl hi⟩
      · exact ⟨ha, .inr hp⟩
      · exact absurd hsame hne

/-- Settles O49: each register's own lemma over the ways a command ends. -/
theorem onlyTheListedCommandsWriteARegister : Obligations.OnlyTheListedCommandsWriteARegister := by
  intro i s t hexec
  obtain ⟨r', es, ho, rfl⟩ := exec_eq_next_iff_outcome.1 hexec
  refine ⟨⟨rfl, rfl, rfl, rfl, rfl, es, rfl⟩, fun hne => ?_, fun hne => ?_, ho.flipped_cases.resolve_left,
    ho.spWritten_cases.resolve_left, ho.hpWritten_cases.resolve_left, ho.shiftPins_cases.resolve_left,
    ho.hardPins_cases.resolve_left, ho.hardRc_cases.resolve_left, ho.shiftRc_cases.resolve_left,
    ho.shiftOff_cases.resolve_left, fun hne => ?_, fun hne => ho.pixels_cases.resolve_left (not_and_or.2 hne),
    ho.route_cases.resolve_left, fun hne => ho.frame_cases.resolve_left (not_and_or.2 hne),
    fun k => ho.status_sticky, fun k => ho.causedBy_of_newBit rfl rfl⟩
  · obtain hsame | ⟨hi, -⟩ | ⟨hi, -⟩ | ⟨-, -, hfault, -⟩ := ho.phase_cases
    · exact absurd hsame hne
    · exact .inl (by simp [hi])
    · exact .inl (by simp [hi])
    · exact .inr hfault
  · obtain ⟨hi, -, hf⟩ | ⟨-, ha, hp, hf⟩ | ⟨-, hsame⟩ := ho.fresh_cases
    · exact .inl ⟨hi, hf⟩
    · exact .inr ⟨ha, hp, hf⟩
    · exact absurd hsame hne
  · obtain ⟨hi, -⟩ := ho.counts_cases.resolve_left (not_and_or.2 hne)
    exact hi

/-- Settles O50: an outcome from one STATUS is an outcome from any other, with the same new bits. -/
theorem statusNeverSteersACommand : Obligations.StatusNeverSteersACommand := by
  intro i s t x hexec
  obtain ⟨r', es, ho, rfl⟩ := exec_eq_next_iff_outcome.1 hexec
  obtain ⟨d, hd, hany⟩ := ho.exists_newBits
  exact ⟨d, hd, CommandOutcome.exec_eq (s := { s with regs := s.regs.withStatus x }) (hany x)⟩

/-- Settles O51: states that agree but for the environment step to such states (`step_sameCore`). -/
theorem environmentNeverSteersTheCore : Obligations.EnvironmentNeverSteersTheCore :=
  fun _ _ _ _ => step_sameCore ⟨rfl, rfl, rfl, rfl, rfl⟩

end Sys2Proof.Machine
end

section
/-!
PROOFS of the family 20_memory, the ports: what a step does to the presented events and the trace, for each move
(20_memory.md R61, R63, R66).
-/
namespace Sys2Proof.Machine

open Sys2Proof.Claims

/-! ## The event handshake -/

/-- What acceptance does is the hand-over the claims write out. -/
theorem acceptEvent_of_pending {s : State} {e : Event} {es : List Event} (h : s.pending = e :: es) :
    s.acceptEvent = handedOver e es s := by
  simp [State.acceptEvent, handedOver, h]

theorem acceptEvent_of_idle {s : State} (h : s.pending = []) : s.acceptEvent = s := by
  simp [State.acceptEvent, h]

/-- An accepted event moves from the head of the presented ones to the end of the trace: the sequence stays. -/
theorem acceptEvent_trace_append_pending (s : State) :
    s.acceptEvent.trace ++ s.acceptEvent.pending = s.trace ++ s.pending := by
  cases h : s.pending with
  | nil => rw [acceptEvent_of_idle h, h]
  | cons e es => simp [acceptEvent_of_pending h, handedOver]

/-! ## One step, by the move it takes -/

section
variable {s : State} {rest : List Input}

theorem step_of_noMove (hin : s.inputs = []) : step s = .next s.acceptEvent := by
  simp [step, takeMove, hin]

theorem step_of_accept (hin : s.inputs = .accept :: rest) :
    step s = .next (State.acceptEvent { s with inputs := rest }) := by
  simp [step, takeMove, hin]

theorem step_of_command {w : CmdWord} (hin : s.inputs = .command w :: rest) (hidle : s.pending = []) :
    step s = runWord w { s with inputs := rest } := by
  simp [step, takeMove, hin, State.busy, hidle]

theorem step_of_readback {a : BitVec 8} (hin : s.inputs = .readback a :: rest) (hidle : s.pending = []) :
    step s = .next (answerRead a { s with inputs := rest }) := by
  simp [step, takeMove, hin, State.busy, hidle]

/-- A BUSY block holds a word and a read: the environment accepts the presented event, as without a move (log 3). -/
theorem step_of_busy (hbusy : s.pending ≠ [])
    (hin : s.inputs = [] ∨ (∃ w rest, s.inputs = .command w :: rest) ∨ ∃ a rest, s.inputs = .readback a :: rest) :
    step s = .next s.acceptEvent := by
  obtain hin | ⟨w, rest, hin⟩ | ⟨a, rest, hin⟩ := hin
  · exact step_of_noMove hin
  · simp [step, takeMove, hin, State.busy, hbusy]
  · simp [step, takeMove, hin, State.busy, hbusy]

end

/-! ## The event sequence -/

/-- A word taken from the port leaves the trace and the moves still to come. -/
theorem runWord_trace_inputs {w : CmdWord} {s t : State} (h : runWord w s = .next t) :
    t.trace = s.trace ∧ t.inputs = s.inputs := by
  obtain ⟨-, rfl⟩ | ⟨i, -, hexec⟩ := runWord_eq_next.1 h
  · exact ⟨rfl, rfl⟩
  · obtain ⟨r', es, -, rfl⟩ := exec_eq_next_iff_outcome.1 hexec
    exact ⟨rfl, rfl⟩

/-- A step that is not a reset keeps the event sequence, or an idle block takes a word and leaves the trace. -/
theorem step_trace_cases {s t : State} (hstep : step s = .next t) (hreset : s.inputs.head? ≠ some .reset) :
    t.trace ++ t.pending = s.trace ++ s.pending ∨
      (s.pending = [] ∧ t.trace = s.trace ∧ ∃ w rest, s.inputs = .command w :: rest ∧ t.inputs = rest) := by
  obtain ⟨rfl, -⟩ | ⟨w, rest, hin, hidle, hrun⟩ | ⟨a, rest, -, -, rfl⟩ | ⟨rest, hin, -⟩ | ⟨rest, -, rfl⟩ |
    ⟨rest, -, rfl⟩ := step_cases hstep
  · exact .inl (acceptEvent_trace_append_pending s)
  · obtain ⟨htrace, hinputs⟩ := runWord_trace_inputs hrun
    exact .inr ⟨hidle, htrace, w, rest, hin, hinputs⟩
  · exact .inl rfl
  · exact absurd (by rw [hin]; rfl) hreset
  · exact .inl (acceptEvent_trace_append_pending { s with inputs := rest })
  · exact .inl rfl

end Sys2Proof.Machine
end

section
/-!
PROOFS of the family 20_memory, the readback port: the word `readReg` answers at each address of the map and that word's
fields (20_memory.md R67), and 0 at every address outside it (R68).
-/
namespace Sys2Proof.Machine

/-! ## The word at each address -/

section
variable (r : Regs)

theorem readReg_status : readReg r 0x00 = 0#56 ++ r.status := rfl
theorem readReg_ctrl : readReg r 0x01 = readCtrl r := rfl
theorem readReg_shiftPins :
    readReg r 0x02 = 0#40 ++ r.shiftPins.latch ++ r.shiftPins.sclk ++ r.shiftPins.data := rfl
theorem readReg_hardPins : readReg r 0x03 = packBytes8 r.wiring.hardPins := rfl
theorem readReg_hardRc : readReg r 0x04 = packNib8 r.wiring.hardRc := rfl
theorem readReg_shiftRc : readReg r 0x05 = packNib8 r.wiring.shiftRc := rfl
theorem readReg_shiftOff : readReg r 0x06 = packOff8 r.wiring.shiftOff := rfl
theorem readReg_counts : readReg r 0x07 = 0#56 ++ r.wiring.shiftN ++ r.wiring.hardN := rfl
theorem readReg_pixels : readReg r 0x08 = packBytes8 r.pixels := rfl
theorem readReg_id : readReg r 0x40 = idWord := rfl

theorem readReg_route (p : Pos) : readReg r (BitVec.ofNat 8 (0x10 + p.val)) = readRoute r.route[p] := by
  fin_cases p <;> rfl

theorem readReg_pattern (k : Fin 8) : readReg r (BitVec.ofNat 8 (0x20 + k.val)) = 0#48 ++ r.pattern[k] := by
  fin_cases k <;> rfl

theorem readReg_frame (s : Fin 16) : readReg r (BitVec.ofNat 8 (0x30 + s.val)) = readSlot r r.frame[s] := by
  fin_cases s <;> rfl

/-- No branch of the map answers an address outside it (20_memory.md R68). -/
theorem readReg_unmapped {a : BitVec 8}
    (ha : (0x09 ≤ a.toNat ∧ a.toNat ≤ 0x0F) ∨ (0x28 ≤ a.toNat ∧ a.toNat ≤ 0x2F) ∨ 0x41 ≤ a.toNat) :
    readReg r a = 0 := by
  unfold readReg
  simp (disch := omega) only [if_neg, dif_neg]

end

/-! ## Reserved bits of the packed arrays (30_encoding.md R81) -/

/-- A payload without reserved bits reads 0 at each of them. -/
theorem getLsbD_eq_false_of_reserved {pl m : Payload} (h : pl &&& m = 0) {k : Nat} (hk : m.getLsbD k = true) :
    pl.getLsbD k = false := by
  have hand : (pl &&& m).getLsbD k = false := by simp [h]
  simpa [hk] using hand

/-- Without reserved bits, and with bits 63 to 32 reserved, the upper half reads 0. -/
theorem upperHalf_eq_zero_of_reserved {pl m : Payload} (h : pl &&& m = 0)
    (hm : ∀ k < 32, m.getLsbD (32 + k) = true) : pl.extractLsb' 32 32 = 0 := by
  refine BitVec.eq_of_getLsbD_eq fun k hk => ?_
  simp [hk, getLsbD_eq_false_of_reserved h (hm k hk)]

theorem packNib8_upperHalf (q : Vector PosField 8) : (packNib8 q).extractLsb' 32 32 = 0 :=
  upperHalf_eq_zero_of_reserved (Laws.EncodeRow.packNib8_reserved q) (by decide)

theorem packOff8_upperHalf (o : Vector Offset 8) : (packOff8 o).extractLsb' 32 32 = 0 :=
  upperHalf_eq_zero_of_reserved (Laws.EncodeRow.packOff8_reserved o) (by decide)

theorem packOff8_getLsbD_reserved (o : Vector Offset 8) (i : Fin 8) : (packOff8 o).getLsbD (4 * i.val + 3) = false :=
  getLsbD_eq_false_of_reserved (Laws.EncodeRow.packOff8_reserved o) (by revert i; decide)

/-! ## The fields of a word -/

section
variable (r : Regs)

theorem readReg_status_fields :
    (readReg r 0x00).extractLsb' 0 8 = r.status ∧ (readReg r 0x00).extractLsb' 8 56 = 0 := by
  rw [readReg_status]
  exact ⟨BitVec.extractLsb'_append_eq_right, BitVec.extractLsb'_append_eq_left⟩

theorem readReg_ctrl_fields :
    (readReg r 0x01).extractLsb' 0 2 = r.phase.code ∧
      (readReg r 0x01).getLsbD 2 = r.fresh ∧ (readReg r 0x01).getLsbD 3 = r.flipped ∧
      (readReg r 0x01).getLsbD 4 = r.frameValid ∧ (readReg r 0x01).getLsbD 5 = r.spWritten ∧
      (readReg r 0x01).getLsbD 6 = r.hpWritten ∧ (readReg r 0x01).extractLsb' 7 57 = 0 := by
  simp only [readReg_ctrl, readCtrl, BitVec.extractLsb'_append_eq_ite, BitVec.getLsbD_append]
  simp

theorem readReg_shiftPins_fields :
    (readReg r 0x02).extractLsb' 0 8 = r.shiftPins.data ∧ (readReg r 0x02).extractLsb' 8 8 = r.shiftPins.sclk ∧
      (readReg r 0x02).extractLsb' 16 8 = r.shiftPins.latch ∧ (readReg r 0x02).extractLsb' 24 40 = 0 := by
  simp only [readReg_shiftPins, BitVec.extractLsb'_append_eq_ite]
  simp

theorem readReg_counts_fields :
    (readReg r 0x07).extractLsb' 0 4 = r.wiring.hardN ∧ (readReg r 0x07).extractLsb' 4 4 = r.wiring.shiftN ∧
      (readReg r 0x07).extractLsb' 8 56 = 0 := by
  simp only [readReg_counts, BitVec.extractLsb'_append_eq_ite]
  simp

/-- The words of the five packed arrays, entry by entry. -/
theorem readReg_array_fields (i : Fin 8) :
    (readReg r 0x03).extractLsb' (8 * i.val) 8 = r.wiring.hardPins[i] ∧
      (readReg r 0x04).extractLsb' (4 * i.val) 4 = r.wiring.hardRc[i] ∧
      (readReg r 0x05).extractLsb' (4 * i.val) 4 = r.wiring.shiftRc[i] ∧
      (readReg r 0x06).extractLsb' (4 * i.val) 3 = r.wiring.shiftOff[i] ∧
      (readReg r 0x06).getLsbD (4 * i.val + 3) = false ∧
      (readReg r 0x08).extractLsb' (8 * i.val) 8 = r.pixels[i] := by
  rw [readReg_hardPins, readReg_hardRc, readReg_shiftRc, readReg_shiftOff, readReg_pixels]
  exact ⟨byteField_packBytes8 _ i, nibbleField_packNib8 _ i, nibbleField_packNib8 _ i, offsetField_packOff8 _ i,
    packOff8_getLsbD_reserved _ i, byteField_packBytes8 _ i⟩

theorem readReg_array_upperHalves :
    (readReg r 0x04).extractLsb' 32 32 = 0 ∧ (readReg r 0x05).extractLsb' 32 32 = 0 ∧
      (readReg r 0x06).extractLsb' 32 32 = 0 := by
  rw [readReg_hardRc, readReg_shiftRc, readReg_shiftOff]
  exact ⟨packNib8_upperHalf _, packNib8_upperHalf _, packOff8_upperHalf _⟩

end

/-! ## The words of the tables, as numbers -/

/-- The high part of a word counts above the low one. -/
theorem toNat_append_eq_add {m n : Nat} (x : BitVec m) (y : BitVec n) :
    (x ++ y).toNat = 2 ^ n * x.toNat + y.toNat := by
  rw [BitVec.toNat_append, ← Nat.shiftLeft_add_eq_or_of_lt y.isLt, Nat.shiftLeft_eq, Nat.mul_comm]

theorem readRoute_direct_toNat (pin : PinNum) : (readRoute (.direct pin)).toNat = 0x100 + pin.toNat := by
  simp only [readRoute, toNat_append_eq_add]
  rfl

theorem readRoute_shifted_toNat (off : Offset) : (readRoute (.shifted off)).toNat = 0x200 + off.toNat := by
  simp only [readRoute, toNat_append_eq_add]
  rfl

theorem readSlot_toNat (r : Regs) (sl : Slot) :
    (readSlot r sl).toNat =
      sl.lo.toNat + 2 ^ 8 * sl.hi.toNat + 2 ^ 16 * sl.sh.toNat + 2 ^ 24 * r.frameValid.toNat := by
  simp only [readSlot, toNat_append_eq_add, BitVec.toNat_ofBool, BitVec.toNat_zero]
  ring

end Sys2Proof.Machine
end

section
/-!
PROOFS of the family 20_memory: the obligations, each a short use of the lemmas above.
-/
namespace Sys2Proof.Machine

open Sys2Proof.Claims

/-- Settles O9 (`step_trace_cases`): a step keeps the sequence, or takes a word while nothing is presented and leaves the
trace; then all it presents is new. -/
theorem eventTraceGrowsInCommandOrder : Obligations.EventTraceGrowsInCommandOrder := by
  intro s t hstep hreset
  obtain hsame | ⟨hidle, htrace, htaken⟩ := step_trace_cases hstep hreset
  · exact ⟨[], by simp [hsame], by simp⟩
  · exact ⟨t.pending, by simp [htrace, hidle], fun _ => ⟨hidle, htrace, htaken⟩⟩

/-- Settles O52, row by row of the map. -/
theorem readbackMap : Obligations.ReadbackMap := by
  intro r
  obtain ⟨hphase, hctrl⟩ := readReg_ctrl_fields r
  refine ⟨readReg_status_fields r, ⟨?_, hctrl⟩, readReg_shiftPins_fields r, readReg_array_fields r,
    readReg_array_upperHalves r, readReg_counts_fields r, fun p => ?_, fun k => ?_, fun s => ?_, readReg_id r,
    fun _ => readReg_unmapped r⟩
  · rw [hphase]
    cases r.phase <;> rfl
  · rw [readReg_route]
    cases r.route[p] with
    | unresolved => rfl
    | direct pin => exact readRoute_direct_toNat pin
    | shifted off => exact readRoute_shifted_toNat off
  · rw [readReg_pattern, toNat_append_eq_add, BitVec.toNat_zero, Nat.mul_zero, Nat.zero_add]
  · rw [readReg_frame, readSlot_toNat]

/-- Settles O5: an idle block runs the word it takes; `withFetchWord` is drained and has the word first. -/
theorem stepRunsTheDecodedCommand : Obligations.StepRunsTheDecodedCommand := by
  refine ⟨fun s w rest i hidle hin hdec => ?_, fun s nbits w => ⟨rfl, rfl, rfl⟩⟩
  rw [step_of_command hin hidle, runWord, hdec]

/-- Settles O7: each of these steps is `acceptEvent`, a hand-over when BUSY and nothing when idle. -/
theorem busyBlockOnlyPresentsItsEvents : Obligations.BusyBlockOnlyPresentsItsEvents := by
  refine ⟨fun s e es hp => ⟨fun hin => ?_, fun rest hin => ?_⟩, fun s hidle => ⟨fun hin => ?_, fun rest hin => ?_⟩⟩
  · rw [step_of_busy (by simp [hp]) hin, acceptEvent_of_pending hp]
  · rw [step_of_accept hin, acceptEvent_of_pending (s := { s with inputs := rest }) hp]
    rfl
  · rw [step_of_noMove hin, acceptEvent_of_idle hidle]
  · rw [step_of_accept hin, acceptEvent_of_idle (s := { s with inputs := rest }) hidle]

/-- Settles O8: an idle block answers the read; a BUSY one accepts an event, which touches no register, answer or move. -/
theorem readbackAnswersWithoutSideEffect : Obligations.ReadbackAnswersWithoutSideEffect := by
  refine fun s a rest hin => ⟨fun hidle => ?_, fun hbusy => ⟨s.acceptEvent, ?_, by simp, by simp, by simp⟩⟩
  · rw [step_of_readback hin hidle, answerRead]
  · exact step_of_busy hbusy (.inr (.inr ⟨a, rest, hin⟩))

end Sys2Proof.Machine
end

section
/-!
PROOFS of the family 30_encoding, the command words: the row of the opcode table a word lies in (30_encoding.md R82), what
the reserved bits of each format say of a payload (R81, R85), and that encoding and decoding undo each other (R80 to R83).
-/
namespace Sys2Proof

open Sys2Proof.Claims

/-! ## Rows of the opcode table -/

theorem mkWord_and_mkWord (a b : BitVec 8) (p q : Payload) : mkWord a p &&& mkWord b q = mkWord (a &&& b) (p &&& q) :=
  BitVec.and_append

/-- A word is determined by its two parts. -/
theorem mkWord_eq_mkWord_iff {a b : BitVec 8} {p q : Payload} : mkWord a p = mkWord b q ↔ a = b ∧ p = q := by
  refine ⟨fun h => ⟨?_, ?_⟩, by rintro ⟨rfl, rfl⟩; rfl⟩
  · simpa using congrArg opcOf h
  · simpa using congrArg payloadOf h

/-- The copied mask column is the opcode bits and the format's reserved bits. -/
theorem tableMask_eq_maskWord (o : Op) : tableMask o = o.maskWord := by cases o <;> rfl

/-- The copied match column is the opcode with an empty payload. -/
theorem tableMatch_eq_matchWord (o : Op) : tableMatch o = o.matchWord := by cases o <;> rfl

/-- A word and a row's mask leave the word's opcode and those of its payload bits that are reserved. -/
theorem and_maskWord (w : CmdWord) (o : Op) : w &&& o.maskWord = mkWord (opcOf w) (payloadOf w &&& o.format.reserved) := by
  calc w &&& o.maskWord = mkWord (opcOf w) (payloadOf w) &&& mkWord 0xFF o.format.reserved := by
        rw [mkWord_opcOf_payloadOf, Op.maskWord]
    _ = mkWord (opcOf w &&& BitVec.allOnes 8) (payloadOf w &&& o.format.reserved) := mkWord_and_mkWord _ _ _ _
    _ = _ := by rw [BitVec.and_allOnes]

theorem inRow_iff {w : CmdWord} {o : Op} : inRow w o ↔ opcOf w = o.opcode ∧ payloadOf w &&& o.format.reserved = 0 := by
  rw [inRow, tableMask_eq_maskWord, tableMatch_eq_matchWord, and_maskWord, Op.matchWord, mkWord_eq_mkWord_iff]

theorem opOfOpcode_eq_some_iff {b : BitVec 8} {o : Op} : opOfOpcode b = some o ↔ b = o.opcode :=
  ⟨fun h => (opcode_of_opOfOpcode h).symm, by rintro rfl; exact opOfOpcode_opcode o⟩

/-- The words of a row are those that decode to its command. -/
theorem exists_decode_eq_ok_iff_inRow (o : Op) (w : CmdWord) : (∃ i, decode w = .ok i ∧ i.op = o) ↔ inRow w o := by
  rw [inRow_iff]
  constructor
  · rintro ⟨i, hdec, rfl⟩
    obtain ⟨o, hopc, hres, rfl⟩ := decode_eq_ok.1 hdec
    rw [instrOf_op]
    exact ⟨opOfOpcode_eq_some_iff.1 hopc, hres⟩
  · rintro ⟨hopc, hres⟩
    exact ⟨instrOf o (payloadOf w), decode_eq_ok.2 ⟨o, opOfOpcode_eq_some_iff.2 hopc, hres, rfl⟩, instrOf_op _ _⟩

/-! ## Reserved bits as fields of the payload -/

theorem and_eq_zero_iff_getLsbD {pl m : Payload} :
    pl &&& m = 0 ↔ ∀ k < 64, m.getLsbD k = true → pl.getLsbD k = false := by
  constructor
  · exact fun h k _ hk => Machine.getLsbD_eq_false_of_reserved h hk
  · intro h
    refine BitVec.eq_of_getLsbD_eq fun k hk => ?_
    cases hm : m.getLsbD k with
    | false => simp [hm]
    | true => simp [h k hk hm]

theorem extractLsb'_eq_zero_iff_getLsbD {pl : Payload} {start len : Nat} :
    pl.extractLsb' start len = 0 ↔ ∀ k < len, pl.getLsbD (start + k) = false := by
  constructor
  · intro h k hk
    simpa [hk] using congrArg (fun x : BitVec len => x.getLsbD k) h
  · intro h
    refine BitVec.eq_of_getLsbD_eq fun k hk => ?_
    simp [hk, h k hk]

/-- A mask of all bits from `n` up asks that the field of those bits is 0. -/
theorem and_eq_zero_iff_upper {pl m : Payload} (n len : Nat) (hlen : n + len = 64)
    (hm : ∀ k < 64, m.getLsbD k = decide (n ≤ k)) : pl &&& m = 0 ↔ pl.extractLsb' n len = 0 := by
  rw [and_eq_zero_iff_getLsbD, extractLsb'_eq_zero_iff_getLsbD]
  constructor
  · intro h k hk
    exact h (n + k) (by omega) (by rw [hm _ (by omega)]; simp)
  · intro h k hk hmk
    have hn : n ≤ k := by simpa [hm k hk] using hmk
    simpa [Nat.add_sub_cancel' hn] using h (k - n) (by omega)

theorem reserved_none_iff {pl : Payload} : pl &&& Format.none.reserved = 0 ↔ pl = 0 :=
  iff_of_eq (congrArg (· = 0) (BitVec.and_allOnes (x := pl)))

theorem reserved_pins3_iff {pl : Payload} : pl &&& Format.pins3.reserved = 0 ↔ pl.extractLsb' 24 40 = 0 :=
  and_eq_zero_iff_upper 24 40 rfl (by decide)

theorem reserved_bytes8 (pl : Payload) : pl &&& Format.bytes8.reserved = 0 := BitVec.and_zero

theorem reserved_nib8_iff {pl : Payload} : pl &&& Format.nib8.reserved = 0 ↔ pl.extractLsb' 32 32 = 0 :=
  and_eq_zero_iff_upper 32 32 rfl (by decide)

theorem reserved_cnt_iff {pl : Payload} : pl &&& Format.cnt.reserved = 0 ↔ pl.extractLsb' 8 56 = 0 :=
  and_eq_zero_iff_upper 8 56 rfl (by decide)

theorem reserved_delay_iff {pl : Payload} : pl &&& Format.delay.reserved = 0 ↔ pl.extractLsb' 32 32 = 0 :=
  and_eq_zero_iff_upper 32 32 rfl (by decide)

/-- Which bits F_OFF8 reserves: the upper half, and the top bit of each nibble of the lower half. -/
theorem off8_reserved_getLsbD :
    ∀ k < 64, Format.off8.reserved.getLsbD k = true ↔ 32 ≤ k ∨ ∃ i : Fin 8, k = 4 * i.val + 3 := by decide

theorem reserved_off8_iff {pl : Payload} :
    pl &&& Format.off8.reserved = 0 ↔
      pl.extractLsb' 32 32 = 0 ∧ ∀ i : Fin 8, pl.getLsbD (4 * i.val + 3) = false := by
  rw [and_eq_zero_iff_getLsbD, extractLsb'_eq_zero_iff_getLsbD]
  constructor
  · intro h
    refine ⟨fun k hk => ?_, fun i => ?_⟩
    · exact h _ (by omega) ((off8_reserved_getLsbD _ (by omega)).2 (.inl (by omega)))
    · exact h _ (by omega) ((off8_reserved_getLsbD _ (by omega)).2 (.inr ⟨i, rfl⟩))
  · rintro ⟨hhigh, hnibble⟩ k hk hm
    obtain h32 | ⟨i, rfl⟩ := (off8_reserved_getLsbD k hk).1 hm
    · simpa [Nat.add_sub_cancel' h32] using hhigh (k - 32) (by omega)
    · exact hnibble i

/-- What the decoder answers to a word with a legal opcode. -/
theorem decode_mkWord_opcode (o : Op) (pl : Payload) :
    decode (mkWord o.opcode pl) =
      if pl &&& o.format.reserved = 0 then .ok (instrOf o pl) else .error .reservedBits := by
  simp [decode]

/-- The same, with the format's reserved bits said as `P`. -/
theorem decode_mkWord_opcode_of_iff (o : Op) {pl : Payload} {P : Prop} [Decidable P]
    (h : pl &&& o.format.reserved = 0 ↔ P) :
    decode (mkWord o.opcode pl) = if P then .ok (instrOf o pl) else .error .reservedBits := by
  simp only [decode_mkWord_opcode, h]

/-! ## The fields of a payload put together again -/

theorem packBytes8_bytes8Fields (pl : Payload) : packBytes8 (bytes8Fields pl) = pl := by
  simp only [packBytes8, bytes8Fields, byteField, Vector.getElem_ofFn]
  simp only [BitVec.extractLsb'_append_extractLsb'_eq_extractLsb']
  exact BitVec.extractLsb'_eq_self

/-- The upper half is 0, and stands where `packNib8` puts 32 zeros. -/
theorem packNib8_nib8Fields {pl : Payload} (h : pl.extractLsb' 32 32 = 0) : packNib8 (nib8Fields pl) = pl := by
  have hzero : 0#32 = pl.extractLsb' 32 32 := h.symm
  simp only [packNib8, nib8Fields, nibbleField, Vector.getElem_ofFn, hzero]
  simp only [BitVec.extractLsb'_append_extractLsb'_eq_extractLsb']
  exact BitVec.extractLsb'_eq_self

/-- As for the nibbles, with each nibble split into its reserved top bit and its offset. -/
theorem packOff8_off8Fields {pl : Payload} (h : pl.extractLsb' 32 32 = 0)
    (hbit : ∀ i : Fin 8, pl.getLsbD (4 * i.val + 3) = false) : packOff8 (off8Fields pl) = pl := by
  have hzero (k : Nat) (hk : k < 32) (htop : k % 4 = 3) : pl.extractLsb' k 1 = 0#1 := by
    have hk' : 4 * (k / 4) + 3 = k := by omega
    refine extractLsb'_eq_zero_iff_getLsbD.2 fun j hj => ?_
    rw [Nat.lt_one_iff.1 hj, Nat.add_zero, ← hk']
    exact hbit ⟨k / 4, by omega⟩
  calc packOff8 (off8Fields pl)
      = pl.extractLsb' 32 32 ++ pl.extractLsb' 31 1 ++ pl.extractLsb' 28 3 ++ pl.extractLsb' 27 1 ++
          pl.extractLsb' 24 3 ++ pl.extractLsb' 23 1 ++ pl.extractLsb' 20 3 ++ pl.extractLsb' 19 1 ++
          pl.extractLsb' 16 3 ++ pl.extractLsb' 15 1 ++ pl.extractLsb' 12 3 ++ pl.extractLsb' 11 1 ++
          pl.extractLsb' 8 3 ++ pl.extractLsb' 7 1 ++ pl.extractLsb' 4 3 ++ pl.extractLsb' 3 1 ++
          pl.extractLsb' 0 3 := by
        simp (disch := omega) only [h, hzero]
        rfl
    _ = pl := by
        simp only [BitVec.extractLsb'_append_extractLsb'_eq_extractLsb']
        exact BitVec.extractLsb'_eq_self

/-- The payload of the command read from a payload without reserved bits is that payload. -/
theorem encodePayload_instrOf {o : Op} {pl : Payload} (h : pl &&& o.format.reserved = 0) :
    encodePayload (instrOf o pl) = pl := by
  cases o with
  | flip | refresh | shutdown => exact (reserved_none_iff.1 h).symm
  | cfgHardPins | construct | setPixels => exact packBytes8_bytes8Fields pl
  | cfgHardRc | cfgShiftRc => exact packNib8_nib8Fields (reserved_nib8_iff.1 h)
  | cfgShiftOff =>
    obtain ⟨hhigh, hbit⟩ := reserved_off8_iff.1 h
    exact packOff8_off8Fields hhigh hbit
  | cfgShiftPins =>
    have hzero : 0#40 = pl.extractLsb' 24 40 := (reserved_pins3_iff.1 h).symm
    simp only [instrOf, encodePayload, byteField, hzero, BitVec.extractLsb'_append_extractLsb'_eq_extractLsb']
    exact BitVec.extractLsb'_eq_self
  | cfgCounts =>
    have hzero : 0#56 = pl.extractLsb' 8 56 := (reserved_cnt_iff.1 h).symm
    simp only [instrOf, encodePayload, nibbleField, hzero, BitVec.extractLsb'_append_extractLsb'_eq_extractLsb']
    exact BitVec.extractLsb'_eq_self
  | refreshWait =>
    have hzero : 0#32 = pl.extractLsb' 32 32 := (reserved_delay_iff.1 h).symm
    simp only [instrOf, encodePayload, hzero, BitVec.extractLsb'_append_extractLsb'_eq_extractLsb']
    exact BitVec.extractLsb'_eq_self

/-! ## The word of a command -/

/-- The word of every command lies in its row (`Laws.EncodeRow`, one lemma per command), so it has no reserved bit. -/
theorem encodePayload_reserved (i : Instr) : encodePayload i &&& i.op.format.reserved = 0 := by
  have hrow : Laws.EncodeRow.Statement i := by
    cases i with
    | cfgShiftPins data sclk latch => exact Laws.EncodeRow.cfgShiftPins data sclk latch
    | cfgHardPins pins => exact Laws.EncodeRow.cfgHardPins pins
    | cfgHardRc rc => exact Laws.EncodeRow.cfgHardRc rc
    | cfgShiftRc rc => exact Laws.EncodeRow.cfgShiftRc rc
    | cfgShiftOff off => exact Laws.EncodeRow.cfgShiftOff off
    | cfgCounts hn sn => exact Laws.EncodeRow.cfgCounts hn sn
    | construct rows => exact Laws.EncodeRow.construct rows
    | flip => exact Laws.EncodeRow.flip
    | setPixels rows => exact Laws.EncodeRow.setPixels rows
    | refresh => exact Laws.EncodeRow.refresh
    | refreshWait us => exact Laws.EncodeRow.refreshWait us
    | shutdown => exact Laws.EncodeRow.shutdown
  rw [Laws.EncodeRow.Statement, and_maskWord, Op.matchWord, mkWord_eq_mkWord_iff, encode, payloadOf_mkWord] at hrow
  exact hrow.2

/-- Every operand is read back from the field it was put in (R81). -/
theorem instrOf_encodePayload (i : Instr) : instrOf i.op (encodePayload i) = i := by
  cases i with
  | flip | refresh | shutdown => rfl
  | cfgHardPins b | construct b | setPixels b => simp [Instr.op, instrOf, encodePayload]
  | cfgHardRc q | cfgShiftRc q => simp [Instr.op, instrOf, encodePayload]
  | cfgShiftOff off => simp [Instr.op, instrOf, encodePayload]
  | cfgShiftPins data sclk latch =>
    simp only [Instr.op, instrOf, encodePayload, byteField, BitVec.extractLsb'_append_eq_ite]
    simp
  | cfgCounts hn sn =>
    simp only [Instr.op, instrOf, encodePayload, nibbleField, BitVec.extractLsb'_append_eq_ite]
    simp
  | refreshWait us => exact congrArg Instr.refreshWait BitVec.extractLsb'_append_eq_right

theorem decode_encode (i : Instr) : decode (encode i) = .ok i := by
  rw [encode, decode_mkWord_opcode, if_pos (encodePayload_reserved i), instrOf_encodePayload]

theorem encode_of_decode {w : CmdWord} {i : Instr} (h : decode w = .ok i) : encode i = w := by
  obtain ⟨o, hopc, hres, rfl⟩ := decode_eq_ok.1 h
  rw [encode, instrOf_op, encodePayload_instrOf hres, opcode_of_opOfOpcode hopc, mkWord_opcOf_payloadOf]

end Sys2Proof
end

section
/-!
PROOFS of the family 30_encoding, the event words: the three fields of a word, the number it stands for, and that it says
which event it is (30_encoding.md R95).
-/
namespace Sys2Proof.Machine

theorem Event.word_fields (e : Event) :
    e.word.extractLsb' 40 4 = e.kind ∧ e.word.extractLsb' 32 8 = e.fieldA ∧ e.word.extractLsb' 0 32 = e.fieldB := by
  simp only [Event.word, BitVec.extractLsb'_append_eq_ite]
  simp

/-- A bit in B is read back from bit 0. -/
theorem zeros_append_ofBool_getElem (v : Bool) : (0#31 ++ BitVec.ofBool v : BitVec 32)[0] = v := by cases v <;> rfl

/-- A byte in B is read back from bits 7 to 0. -/
theorem zeros_append_byte_extractLsb' (c : Byte) : (0#24 ++ c : BitVec 32).extractLsb' 0 8 = c :=
  BitVec.extractLsb'_append_eq_right

theorem eventOfWord_word (e : Event) : eventOfWord e.word = some e := by
  obtain ⟨hkind, ha, hb⟩ := e.word_fields
  simp only [eventOfWord, hkind, ha, hb]
  cases e with
  | dirOut p => simp [Event.kind, Event.fieldA]
  | pin p v => simp [Event.kind, Event.fieldA, Event.fieldB, zeros_append_ofBool_getElem]
  | group g b => cases g <;> simp [Event.kind, Event.fieldA, Event.fieldB, Group.code, zeros_append_byte_extractLsb']
  | delay us => simp [Event.kind, Event.fieldB]
  | diag c => simp [Event.kind, Event.fieldB, zeros_append_byte_extractLsb']

theorem Event.word_toNat (e : Event) :
    e.word.toNat = e.kind.toNat * 2 ^ 40 + e.fieldA.toNat * 2 ^ 32 + e.fieldB.toNat := by
  rw [Event.word, toNat_append_eq_add, toNat_append_eq_add]
  ring

/-- Zeros above a field do not count. -/
theorem zeros_append_toNat {m n : Nat} (x : BitVec n) : (0#m ++ x).toNat = x.toNat := by
  rw [toNat_append_eq_add, BitVec.toNat_zero, Nat.mul_zero, Nat.zero_add]

@[simp] theorem Event.fieldA_group_toNat (g : Group) (b : Byte) :
    (Event.group g b).fieldA.toNat = if g = .hi then 1 else 0 := by cases g <;> rfl

@[simp] theorem Event.fieldB_pin_toNat (p : PinNum) (v : Bool) : (Event.pin p v).fieldB.toNat = v.toNat :=
  (zeros_append_toNat (m := 31) (BitVec.ofBool v)).trans (BitVec.toNat_ofBool v)

@[simp] theorem Event.fieldB_group_toNat (g : Group) (b : Byte) : (Event.group g b).fieldB.toNat = b.toNat :=
  zeros_append_toNat (m := 24) b

@[simp] theorem Event.fieldB_diag_toNat (c : Byte) : (Event.diag c).fieldB.toNat = c.toNat :=
  zeros_append_toNat (m := 24) c

end Sys2Proof.Machine
end

section
/-!
PROOFS of the family 30_encoding, the decoder as a total function: every word is run or rejected, so no move is without an
outcome (30_encoding.md R86, 60_exceptions.md R270).
-/
namespace Sys2Proof.Machine

theorem step_of_stall {s : State} {rest : List Input} (hin : s.inputs = .stall :: rest) :
    step s = .next { s with inputs := rest } := by
  simp [step, takeMove, hin]

theorem exists_exec_eq_next (i : Instr) (s : State) : ∃ t, exec i s = .next t := by
  obtain ⟨r', es, ho⟩ := CommandOutcome.total i s.regs
  exact ⟨_, ho.exec_eq⟩

theorem exists_runWord_eq_next (w : CmdWord) (s : State) : ∃ t, runWord w s = .next t := by
  cases hdec : decode w with
  | error e => exact ⟨_, runWord_eq_next.2 (.inl ⟨⟨e, hdec⟩, rfl⟩)⟩
  | ok i =>
    obtain ⟨t, hexec⟩ := exists_exec_eq_next i s
    exact ⟨t, runWord_eq_next.2 (.inr ⟨i, hdec, hexec⟩)⟩

theorem exists_step_eq_next (s : State) : ∃ t, step s = .next t := by
  rcases hin : s.inputs with _ | ⟨move, rest⟩
  · exact ⟨_, step_of_noMove hin⟩
  · cases move with
    | command w =>
      by_cases hidle : s.pending = []
      · rw [step_of_command hin hidle]
        exact exists_runWord_eq_next w _
      · exact ⟨_, step_of_busy hidle (.inr (.inl ⟨w, rest, hin⟩))⟩
    | readback a =>
      by_cases hidle : s.pending = []
      · exact ⟨_, step_of_readback hin hidle⟩
      · exact ⟨_, step_of_busy hidle (.inr (.inr ⟨a, rest, hin⟩))⟩
    | reset => exact ⟨_, step_of_reset hin⟩
    | accept => exact ⟨_, step_of_accept hin⟩
    | stall => exact ⟨_, step_of_stall hin⟩

end Sys2Proof.Machine
end

section
/-!
PROOFS of the family 30_encoding, the assembler: the words it emits, and the operands of a SHOW line (30_encoding.md R87,
R88).
-/
namespace Sys2Proof

/-- The assembler emits words of commands only. -/
theorem exists_map_encode_of_assemble {text : List Char} {ws : List CmdWord} (h : assemble text = .ok ws) :
    ∃ is : List Instr, ws = is.map encode := by
  unfold assemble at h
  split at h
  · cases h
  · exact ⟨_, by simpa using h.symm⟩

theorem assembleLine_of_wellFormed {l : AsmLine} (h : l.wellFormed = true) : assembleLine l = .ok (expand l) := by
  obtain ⟨hcount, hranges⟩ : operandCountOk l = true ∧ rangesOk l = true := by simpa [AsmLine.wellFormed] using h
  simp [assembleLine, hcount, hranges]

theorem rangesOk_iff {l : AsmLine} :
    rangesOk l = true ↔ ∀ x i, l.operands[i]? = some x → rangeCheck l.name i x = true := by
  simp [rangesOk, List.mem_zipIdx_iff_getElem?]

theorem operand_eq_value {l : AsmLine} {i : Nat} {x : AsmOperand} (h : l.operands[i]? = some x) :
    l.operand i = x.value := by
  simp [AsmLine.operand, h]

/-- The line `SHOW r0, ..., r7, us`. -/
def showLine (r : Vector Byte 8) (us : BitVec 32) : AsmLine :=
  { name := .showWait, operands := (r.toList.map fun b => .num b.toNat) ++ [.num us.toNat] }

section
variable (r : Vector Byte 8) (us : BitVec 32)

theorem showLine_row {i : Nat} (hi : i < 8) : (showLine r us).operands[i]? = some (.num r[i].toNat) := by
  rw [showLine, List.getElem?_append_left (by simpa using hi)]
  simp [hi]

theorem showLine_delay : (showLine r us).operands[8]? = some (.num us.toNat) := by
  rw [showLine, List.getElem?_append_right (by simp)]
  simp

theorem showLine_length : (showLine r us).operands.length = 9 := by simp [showLine]

/-- A byte is in the range of a row, a 32-bit number in the range of the wait. -/
theorem showLine_wellFormed : (showLine r us).wellFormed = true := by
  have hcount : operandCountOk (showLine r us) = true := by
    rw [operandCountOk, showLine_length]
    rfl
  have hranges : rangesOk (showLine r us) = true := by
    refine rangesOk_iff.2 fun x i hx => ?_
    have hi : i < 9 := showLine_length r us ▸ (List.getElem?_eq_some_iff.1 hx).1
    obtain hrow | rfl : i < 8 ∨ i = 8 := by omega
    · obtain rfl : .num r[i].toNat = x := by simpa [showLine_row r us hrow] using hx
      simpa [rangeCheck, showLine, operandInRange, hrow] using r[i].isLt
    · obtain rfl : .num us.toNat = x := by simpa [showLine_delay] using hx
      simpa [rangeCheck, showLine, operandInRange] using us.isLt
  rw [AsmLine.wellFormed, hcount, hranges]
  rfl

theorem expand_showLine : expand (showLine r us) = [.setPixels r, .refreshWait us] := by
  have hrows : octet 8 (showLine r us).operand = r := by
    refine Vector.ext fun i hi => ?_
    simp [octet, operand_eq_value (showLine_row r us hi), AsmOperand.value]
  have hdelay : BitVec.ofNat 32 ((showLine r us).operand 8) = us := by
    simp [operand_eq_value (showLine_delay r us), AsmOperand.value]
  calc expand (showLine r us)
      = [.setPixels (octet 8 (showLine r us).operand), .refreshWait (BitVec.ofNat 32 ((showLine r us).operand 8))] := rfl
    _ = _ := by rw [hrows, hdelay]

end

/-- The line `REFRESH_N n` for n >= 1. -/
theorem assembleLine_refreshN {n : Nat} (hn : 1 ≤ n) :
    assembleLine { name := .refreshN, operands := [.num n] } = .ok (List.replicate n .refresh) := by
  have hok : AsmLine.wellFormed { name := .refreshN, operands := [.num n] } = true := by
    simp [AsmLine.wellFormed, operandCountOk, operandCount, rangesOk, rangeCheck, hn]
  exact assembleLine_of_wellFormed hok

end Sys2Proof
end

section
/-!
PROOFS of the family 30_encoding: the obligations, each a short use of the lemmas above.
-/
namespace Sys2Proof.Machine

open Sys2Proof.Claims

/-- Settles O13: the word's opcode selects the command, its payload has no reserved bit, and its fields are the operands. -/
theorem decodeOfEncodeIsTheCommand : Obligations.DecodeOfEncodeIsTheCommand := decode_encode

/-- Settles O6, by the move at the head of the list: a word taken is run or rejected, and each is a next state. -/
theorem everyStepAnswersANextState : Obligations.EveryStepAnswersANextState := exists_step_eq_next

/-- Settles O12: both sides say that the opcode is the row's and that no reserved bit of its format is set. -/
theorem decodesExactlyInItsTableRow : Obligations.DecodesExactlyInItsTableRow := exists_decode_eq_ok_iff_inRow

/-- Settles O14: the fields of a payload without reserved bits, put together again, are that payload. -/
theorem encodeOfDecodeIsTheWord : Obligations.EncodeOfDecodeIsTheWord := fun _ _ => encode_of_decode

/-- Settles O15, format by format: what the decoder answers, with the format's reserved bits said as a field. -/
theorem payloadFieldsSitWhereTheFormatsSay : Obligations.PayloadFieldsSitWhereTheFormatsSay := by
  intro pl
  refine ⟨?none, ?pins3, ⟨bytes8Fields pl, ?bytes, ?hardPins, ?construct, ?setPixels⟩,
    ⟨nib8Fields pl, ?nibbles, ?hardRc, ?shiftRc⟩, ⟨off8Fields pl, ?offsets, ?off8⟩, ?cnt, ?delay⟩
  case none =>
    simp only [List.forall_mem_cons, List.not_mem_nil, false_implies, implies_true, and_true]
    exact ⟨decode_mkWord_opcode_of_iff .flip reserved_none_iff, decode_mkWord_opcode_of_iff .refresh reserved_none_iff,
      decode_mkWord_opcode_of_iff .shutdown reserved_none_iff⟩
  case pins3 => exact decode_mkWord_opcode_of_iff .cfgShiftPins reserved_pins3_iff
  case hardPins => exact (decode_mkWord_opcode .cfgHardPins pl).trans (if_pos (reserved_bytes8 pl))
  case construct => exact (decode_mkWord_opcode .construct pl).trans (if_pos (reserved_bytes8 pl))
  case setPixels => exact (decode_mkWord_opcode .setPixels pl).trans (if_pos (reserved_bytes8 pl))
  case hardRc => exact decode_mkWord_opcode_of_iff .cfgHardRc reserved_nib8_iff
  case shiftRc => exact decode_mkWord_opcode_of_iff .cfgShiftRc reserved_nib8_iff
  case off8 => exact decode_mkWord_opcode_of_iff .cfgShiftOff reserved_off8_iff
  case cnt => exact decode_mkWord_opcode_of_iff .cfgCounts reserved_cnt_iff
  case delay => exact decode_mkWord_opcode_of_iff .refreshWait reserved_delay_iff
  case bytes => simp [bytes8Fields, byteField]
  case nibbles => simp [nib8Fields, nibbleField]
  case offsets => simp [off8Fields, offsetField]

/-- Settles O17: a word read back (`eventOfWord_word`), and the three fields of each event as a number. -/
theorem eventWordFields : Obligations.EventWordFields := by
  refine ⟨eventOfWord_word, fun p v g b c us => ⟨?dirOut, ?pin, ?group, ?delay, ?diag⟩, rfl, rfl, rfl⟩
  case dirOut => simp [Event.word_toNat, Event.kind, Event.fieldA, Event.fieldB]
  case pin => simp [Event.word_toNat, Event.kind, Event.fieldA]
  case group => simp [Event.word_toNat, Event.kind]
  case delay => simp [Event.word_toNat, Event.kind, Event.fieldA, Event.fieldB]
  case diag => simp [Event.word_toNat, Event.kind, Event.fieldA]

/-- Settles O18: an emitted word is the word of a command, and that decodes, so it lies in the command's row. -/
theorem assembledWordsAreWellFormed : Obligations.AssembledWordsAreWellFormed := by
  intro text ws h w hw
  obtain ⟨is, rfl⟩ := exists_map_encode_of_assemble h
  obtain ⟨i, -, rfl⟩ := List.mem_map.1 hw
  exact ⟨i.op, (exists_decode_eq_ok_iff_inRow i.op (encode i)).1 ⟨i, decode_encode i, rfl⟩⟩

/-- Settles O16: the twelve texts and words are evaluated. -/
theorem workedEncodings : Obligations.WorkedEncodings := by
  unfold Obligations.WorkedEncodings
  decide

/-- Settles O19: each line passes its checks, and its expansion is the one written. -/
theorem pseudoInstructionsExpand : Obligations.PseudoInstructionsExpand :=
  ⟨rfl, fun r us => (assembleLine_of_wellFormed (showLine_wellFormed r us)).trans (congrArg _ (expand_showLine r us)),
    fun _ => assembleLine_refreshN, rfl⟩

end Sys2Proof.Machine
end

section
/-!
PROOFS of the family 40_lifecycle, the commands: when a command is turned away, what an illegal word does, and the spec's own
words for what an accepted command writes and presents (40_lifecycle.md R110 to R121).
-/
namespace Sys2Proof.Machine

open Sys2Proof.Claims

/-! ## Commands turned away -/

/-- A command outside its phases only sets ERR_STATE (R110, 60_exceptions.md R251). -/
theorem exec_of_not_acceptedIn {i : Instr} {s : State} (h : ¬ acceptedIn i.op s.regs) :
    exec i s = .next (flagged 0x02 s) :=
  exec_of_not_accepts (by simpa using mt accepts_iff_acceptedIn.1 h)

theorem acceptedIn_iff_unconfigured {o : Op} (ho : o ∈ configOps) {r : Regs} :
    acceptedIn o r ↔ r.phase = .unconfigured :=
  ⟨fun h => phase_of_acceptedIn_config h ho, fun h => .inl ⟨ho, h⟩⟩

theorem acceptedIn_iff_ready {o : Op} (ho : o ∈ readyOps) {r : Regs} : acceptedIn o r ↔ r.phase = .ready :=
  ⟨fun h => phase_of_acceptedIn_ready h ho, fun h => .inr (.inr ⟨ho, h⟩)⟩

theorem exec_config_of_not_unconfigured {i : Instr} (hi : i.op ∈ configOps) {s : State}
    (h : s.regs.phase ≠ .unconfigured) : exec i s = .next (flagged 0x02 s) :=
  exec_of_not_acceptedIn (mt (acceptedIn_iff_unconfigured hi).1 h)

theorem exec_readyOp_of_not_ready {i : Instr} (hi : i.op ∈ readyOps) {s : State} (h : s.regs.phase ≠ .ready) :
    exec i s = .next (flagged 0x02 s) :=
  exec_of_not_acceptedIn (mt (acceptedIn_iff_ready hi).1 h)

theorem exec_of_dead {s : State} (h : s.regs.phase = .dead) (i : Instr) : exec i s = .next (flagged 0x02 s) :=
  exec_of_not_acceptedIn fun ha => phase_ne_dead_of_acceptedIn ha h

/-! ## Words of a legal opcode -/

/-- An idle block sets ERR_ILLEGAL for a word that does not decode (60_exceptions.md R250). -/
theorem rejectedIllegal_of_decode_error {w : CmdWord} {e : DecodeError} (h : decode w = .error e) :
    rejectedIllegal w := by
  intro s rest hidle hin
  rw [step_of_command hin hidle, runWord, h]
  rfl

/-- Without a reserved bit, which is `P`, a word decodes to its opcode's command; with one it is rejected. -/
theorem decode_or_rejectedIllegal (o : Op) {pl : Payload} {P : Prop} (h : pl &&& o.format.reserved = 0 ↔ P) :
    (P → decode (mkWord o.opcode pl) = .ok (instrOf o pl)) ∧ (¬ P → rejectedIllegal (mkWord o.opcode pl)) := by
  refine ⟨fun hP => ?_, fun hP => rejectedIllegal_of_decode_error (e := .reservedBits) ?_⟩
  · rw [decode_mkWord_opcode, if_pos (h.2 hP)]
  · rw [decode_mkWord_opcode, if_neg (mt h.1 hP)]

theorem decode_bytes8 {o : Op} (ho : o.format = .bytes8) (pl : Payload) :
    decode (mkWord o.opcode pl) = .ok (instrOf o pl) :=
  (decode_or_rejectedIllegal o Iff.rfl).1 (ho ▸ reserved_bytes8 pl)

/-- The command with an empty payload is the only word of its opcode (R81, format F_NONE). -/
theorem decode_none_or_rejectedIllegal {o : Op} (ho : o.format = .none) :
    decode (mkWord o.opcode 0) = .ok (instrOf o 0) ∧ ∀ pl, pl ≠ 0 → rejectedIllegal (mkWord o.opcode pl) := by
  have hword (pl : Payload) := decode_or_rejectedIllegal o (pl := pl) (P := pl = 0) (ho ▸ reserved_none_iff)
  exact ⟨(hword 0).1 rfl, fun pl => (hword pl).2⟩

theorem bytes8Fields_getElem (pl : Payload) (i : Fin 8) : (bytes8Fields pl)[i] = pl.extractLsb' (8 * i.val) 8 := by
  simp [bytes8Fields, byteField]

theorem nib8Fields_getElem (pl : Payload) (i : Fin 8) : (nib8Fields pl)[i] = pl.extractLsb' (4 * i.val) 4 := by
  simp [nib8Fields, nibbleField]

theorem off8Fields_getElem (pl : Payload) (i : Fin 8) : (off8Fields pl)[i] = pl.extractLsb' (4 * i.val) 3 := by
  simp [off8Fields, offsetField]

/-! ## Accepted commands -/

/-- A command that presents no event changes the registers only. -/
theorem CommandOutcome.exec_eq_of_silent {i : Instr} {r' : Regs} {s : State} (ho : CommandOutcome i s.regs r' []) :
    exec i s = .next { s with regs := r' } := by
  rw [ho.exec_eq, State.afterCommand, List.append_nil]

/-- The warning bits of a route build, as the claims write them (41_pin_router.md R145, R146). -/
theorem dupBit_eq (w : Wiring) : dupBit w = if dupClaim w then Cause.warnDupClaim.mask else 0 := by
  simp only [dupBit, dupClaim_iff]
  rfl

theorem uncoveredBit_eq (w : Wiring) : uncoveredBit w = if uncovered w then Cause.warnUncovered.mask else 0 := by
  simp only [uncoveredBit, uncovered_iff]
  rfl

theorem Regs.setStatusIf_eq (b : Bool) (c : Cause) (r : Regs) :
    r.setStatusIf b c = { r with status := r.status ||| if b then c.mask else 0 } := by
  cases b <;> simp [Regs.setStatusIf, Regs.setStatus]

/-- A route build writes ROUTE and the two warnings, and nothing else (R140). -/
theorem Regs.rebuildRoutes_eq (r : Regs) :
    r.rebuildRoutes =
      { r with
        route := buildRoutes r.wiring
        status := r.status ||| dupBit r.wiring ||| uncoveredBit r.wiring } := by
  rw [Regs.rebuildRoutes, Regs.setStatusIf_eq, Regs.setStatusIf_eq, dupBit_eq, uncoveredBit_eq]

/-- The registers CONSTRUCT writes (R117). -/
theorem Regs.construct_eq (rows : Vector Byte 8) (r : Regs) :
    r.construct rows =
      { r with
        route := buildRoutes r.wiring
        pixels := rows
        pattern := generate rows
        frame := (compile (generate rows) (buildRoutes r.wiring)).1
        frameValid := (compile (generate rows) (buildRoutes r.wiring)).2
        flipped := false
        fresh := true
        phase := .ready
        status := r.status ||| dupBit r.wiring ||| uncoveredBit r.wiring } := by
  rw [Regs.construct, Regs.rebuildRoutes_eq, Regs.setPixels, Regs.recompile]

theorem finRange_take_eq_filter (k n : Nat) :
    (List.finRange k).take n = (List.finRange k).filter fun i => decide (i.val < n) := by
  induction k generalizing n with
  | zero => simp
  | succ k ih =>
    cases n with
    | zero => simp
    | succ n => simp [List.finRange_succ, ← List.map_take, ih, List.filter_map, Function.comp_def]

/-- The first `n` entries of a vector are those with an index below `n`. -/
theorem vector_take_eq_map_filter {α : Type} {k : Nat} (v : Vector α k) (n : Nat) :
    v.toList.take n = ((List.finRange k).filter fun i => decide (i.val < n)).map fun i => v[i] := by
  have hv : v.toList = (List.finRange k).map fun i => v[i] := by
    apply List.ext_getElem <;> simp
  rw [hv, ← List.map_take, finRange_take_eq_filter]

/-- CONSTRUCT's events are those R118 lists. -/
theorem constructEvents_eq_dirOutEvents (r : Regs) : constructEvents r = dirOutEvents r := by
  rw [constructEvents, dirOutEvents, vector_take_eq_map_filter, List.map_map]
  rfl

/-- A slot's events are the 28 that 44_serializer.md R200 lists. -/
theorem emitSlot_eq_slotEvents (p : ShiftPins) (sl : Slot) : emitSlot p sl = slotEvents p sl := rfl

theorem renderEvents_eq_frameEvents (r : Regs) : renderEvents r = frameEvents r.shiftPins r.frame := by
  simp only [renderEvents, frameEvents, emitSlot_eq_slotEvents]

/-- The invariant R39 rules out a valid frame over an unresolved route. -/
theorem allResolved_of_frameValid {r : Regs} (hc : cachesConsistent r) (hvalid : r.frameValid = true) :
    allResolved r.route = true := by
  obtain ⟨-, -, hframe⟩ := hc
  rw [← compile_snd r.pattern, ← hframe, hvalid]

/-- An accepted command does not set ERR_STATE: that bit's only cause is its phase (60_exceptions.md R258). -/
theorem CommandOutcome.errState_of_acceptedIn {i : Instr} {r r' : Regs} {es : List Event}
    (ho : CommandOutcome i r r' es) (ha : acceptedIn i.op r) : r'.status.getLsbD 1 = r.status.getLsbD 1 := by
  cases h0 : r.status.getLsbD 1 with
  | true => exact ho.status_sticky h0
  | false =>
    refine Bool.eq_false_iff.2 fun h1 => ?_
    have hcause := ho.causedBy_of_newBit (s := State.reset.afterCommand r []) (t := State.reset.afterCommand r' [])
      rfl rfl h0 h1
    simp only [causedBy, Nat.reduceEqDiff, false_and, or_false, true_and] at hcause
    exact hcause ha

/-- A command accepted in READY clears FRESH (10_state.md R23). -/
theorem CommandOutcome.fresh_of_ready {i : Instr} {r r' : Regs} {es : List Event}
    (ho : CommandOutcome i r r' es) (ha : acceptedIn i.op r) (hready : r.phase = .ready) : r'.fresh = false := by
  obtain ⟨hi, -, -⟩ | ⟨-, -, -, hf⟩ | ⟨hnot, -⟩ := ho.fresh_cases
  · rw [hi, acceptedIn_construct, hready] at ha
    exact nomatch ha.1
  · exact hf
  · exact absurd ⟨ha, .inr hready⟩ hnot

end Sys2Proof.Machine
end

section
/-!
PROOFS of the family 40_lifecycle, the pins of CONSTRUCT: a DIR_OUT event sets one direction bit, drives no level and gives
the shift register no edge, and so does any sequence of them (60_exceptions.md R272, R273).
-/
namespace Sys2Proof.Machine

open Sys2Proof.Claims

/-! ## One DIR_OUT event -/

section
variable (e : Env) (p q : PinNum)

theorem portBit_eq : portBit e q = (e.port (groupOf q)).getLsbD (bitOf q) := by
  by_cases hq : q.toNat < 8 <;> simp [portBit, groupOf, hq, Env.port, bitOf]

theorem ddrBit_eq : ddrBit e q = (e.ddr (groupOf q)).getLsbD (bitOf q) := by
  by_cases hq : q.toNat < 8 <;> simp [ddrBit, groupOf, hq, Env.ddr, bitOf]

/-- A pin shows its PORT bit when it is an output (R272). -/
theorem level_eq_ite : e.level q = if ddrBit e q then some (portBit e q) else none := by
  rw [Env.level, ← ddrBit_eq, ← portBit_eq]

theorem gpio_dirOut_port (g : Group) : (e.gpio (.dirOut p)).port g = e.port g := by
  cases h : groupOf p <;> cases g <;> simp [Env.gpio, Env.setDdr, Env.port, h]

/-- A DIR_OUT event leaves every PORT bit (R272). -/
theorem portBit_gpio_dirOut : portBit (e.gpio (.dirOut p)) q = portBit e q := by
  rw [portBit_eq, portBit_eq, gpio_dirOut_port]

/-- A DIR_OUT event sets one bit of its pin's direction byte. -/
theorem gpio_dirOut_ddr (g : Group) :
    (e.gpio (.dirOut p)).ddr g = if groupOf p = g then setBit (e.ddr g) (bitOf p) else e.ddr g := by
  cases h : groupOf p <;> cases g <;> simp [Env.gpio, Env.setDdr, Env.ddr, h]

theorem samePinBit_iff : samePinBit p q ↔ groupOf p = groupOf q ∧ bitOf q = bitOf p := by
  by_cases hp : p.toNat < 8 <;> by_cases hq : q.toNat < 8 <;> simp [samePinBit, groupOf, bitOf, hp, hq, eq_comm]

/-- A DIR_OUT event sets the DDR bit of its pin (R272). -/
theorem ddrBit_gpio_dirOut : ddrBit (e.gpio (.dirOut p)) q = (ddrBit e q || decide (samePinBit p q)) := by
  have hbit : bitOf p < 8 := Nat.mod_lt _ (by decide)
  simp only [ddrBit_eq, gpio_dirOut_ddr, samePinBit_iff]
  by_cases hg : groupOf p = groupOf q <;> simp [hg, hbit]

/-- No edge: a pin keeps its PORT bit, so its level stays or begins (log 9). -/
theorem rises_gpio_dirOut : rises (e.level q) ((e.gpio (.dirOut p)).level q) = false := by
  rw [level_eq_ite, level_eq_ite, portBit_gpio_dirOut]
  cases ddrBit e q <;> cases ddrBit (e.gpio (.dirOut p)) q <;> cases portBit e q <;> rfl

/-- The environment takes a DIR_OUT event on the GPIO side alone. -/
theorem takeEvent_dirOut (sp : ShiftPins) (n : Nat) : takeEvent sp (e, n) (.dirOut p) = (e.gpio (.dirOut p), n) := by
  obtain ⟨henv, hdraws⟩ := shiftRegister_of_no_edge (x := edgesOf sp e (e.gpio (.dirOut p)))
    (rises_gpio_dirOut e p sp.sclk) (rises_gpio_dirOut e p sp.latch) (e.gpio (.dirOut p)) n
  exact Prod.ext henv hdraws

end

/-! ## A sequence of DIR_OUT events -/

/-- The environment after the pins are made outputs one after another. -/
def Env.makeOutputs (e : Env) (pins : List PinNum) : Env := pins.foldl (fun e p => e.gpio (.dirOut p)) e

section
variable (e : Env) (pins : List PinNum)

theorem takeEvents_dirOut (sp : ShiftPins) (n : Nat) :
    takeEvents sp (e, n) (pins.map .dirOut) = (e.makeOutputs pins, n) := by
  induction pins generalizing e with
  | nil => rfl
  | cons p ps ih => rw [List.map_cons, takeEvents_cons, takeEvent_dirOut, ih]; rfl

theorem portBit_makeOutputs (q : PinNum) : portBit (e.makeOutputs pins) q = portBit e q := by
  induction pins generalizing e with
  | nil => rfl
  | cons p ps ih => exact (ih _).trans (portBit_gpio_dirOut e p q)

theorem makeOutputs_shiftRegister :
    (e.makeOutputs pins).srBuf = e.srBuf ∧ (e.makeOutputs pins).srOut = e.srOut := by
  induction pins generalizing e with
  | nil => exact ⟨rfl, rfl⟩
  | cons p ps ih =>
    obtain ⟨hbuf, hout⟩ := ih (e.gpio (.dirOut p))
    obtain ⟨hbuf', hout'⟩ := gpio_shiftRegister e (.dirOut p)
    exact ⟨hbuf.trans hbuf', hout.trans hout'⟩

theorem ddrBit_makeOutputs (q : PinNum) :
    ddrBit (e.makeOutputs pins) q = (ddrBit e q || pins.any fun p => decide (samePinBit p q)) := by
  induction pins generalizing e with
  | nil => simp [Env.makeOutputs]
  | cons p ps ih =>
    calc ddrBit (e.makeOutputs (p :: ps)) q
        = (ddrBit (e.gpio (.dirOut p)) q || ps.any fun p => decide (samePinBit p q)) := ih _
      _ = _ := by rw [ddrBit_gpio_dirOut, Bool.or_assoc, List.any_cons]

/-- Each of the pins is an output and shows the PORT bit it had. -/
theorem level_makeOutputs {q : PinNum} (hq : q ∈ pins) : (e.makeOutputs pins).level q = some (portBit e q) := by
  have hany : (pins.any fun p => decide (samePinBit p q)) = true :=
    List.any_eq_true.2 ⟨q, hq, by simp⟩
  rw [level_eq_ite, ddrBit_makeOutputs, hany, Bool.or_true, if_pos rfl, portBit_makeOutputs]

end

/-! ## The pins of CONSTRUCT -/

/-- The pins CONSTRUCT makes outputs, in the order of R118. -/
def configuredPins (r : Regs) : List PinNum :=
  [r.shiftPins.data, r.shiftPins.sclk, r.shiftPins.latch] ++ r.wiring.hardPins.toList.take r.wiring.hardN.toNat

theorem constructEvents_eq_map_dirOut (r : Regs) : constructEvents r = (configuredPins r).map .dirOut := by
  simp [constructEvents, configuredPins]

theorem hardPins_mem_configuredPins {r : Regs} {i : Fin 8} (hi : i.val < r.wiring.hardN.toNat) :
    r.wiring.hardPins[i] ∈ configuredPins r := by
  have hmem : r.wiring.hardPins[i] ∈ r.wiring.hardPins.toList.take r.wiring.hardN.toNat :=
    List.mem_take_iff_getElem.2 ⟨i.val, by simpa using hi, by simp⟩
  exact List.mem_append_right _ hmem

end Sys2Proof.Machine
end

section
/-!
PROOFS of the family 40_lifecycle: the obligations, each a short use of the lemmas above.
-/
namespace Sys2Proof.Machine

open Sys2Proof.Claims

/-- Settles O26: the accepted CONSTRUCT is its outcome, its events and its warning bits said in the words of the claim. -/
theorem constructBuildsTheObject : Obligations.ConstructBuildsTheObject := by
  refine fun s rows => ⟨fun hp hsp hhp => ?_, fun hnot => ?_, fun pl => ?_⟩
  · have ho := CommandOutcome.construct rows (acceptedIn_construct.2 ⟨hp, hsp, hhp⟩)
    rw [ho.exec_eq, State.afterCommand, constructEvents_eq_dirOutEvents, Regs.construct_eq]
  · exact exec_of_not_acceptedIn (mt acceptedIn_construct.1 hnot)
  · exact ⟨bytes8Fields pl, bytes8Fields_getElem pl, decode_bytes8 (o := .construct) rfl pl⟩

/-- Settles O30: with consistent caches a valid frame has every route resolved, so the cleared frame is valid too and is
rendered. -/
theorem shutdownRendersOneBlankFrame : Obligations.ShutdownRendersOneBlankFrame := by
  refine fun s hcaches => ⟨fun hready hvalid => ?valid, fun hready hinvalid => ?invalid,
    exec_readyOp_of_not_ready (i := .shutdown) (by decide), exec_of_dead,
    decode_none_or_rejectedIllegal (o := .shutdown) rfl⟩
  case valid =>
    have ha : acceptedIn .shutdown s.regs := (acceptedIn_iff_ready (by decide)).2 hready
    have hroute := allResolved_of_frameValid (hcaches hready) hvalid
    have hframe : (compile (generate allOff) s.regs.route).2 = true := by rw [compile_snd, hroute]
    rw [(CommandOutcome.shutdown ha hvalid hroute).exec_eq, renderEvents_eq_frameEvents, ← hframe]
    rfl
  case invalid =>
    have ha : acceptedIn .shutdown s.regs := (acceptedIn_iff_ready (by decide)).2 hready
    exact (CommandOutcome.renderFault (i := .shutdown) (by decide) ha hinvalid).exec_eq_of_silent

/-- Settles O46: ERR_STATE has one cause, and an accepted command in READY clears FRESH. -/
theorem phaseAcceptanceTable : Obligations.PhaseAcceptanceTable := by
  refine fun i s => ⟨exec_of_not_acceptedIn, fun ha t hexec => ?_⟩
  obtain ⟨r', es, ho, rfl⟩ := exec_eq_next_iff_outcome.1 hexec
  exact ⟨ho.errState_of_acceptedIn ha, ho.fresh_of_ready ha⟩

/-- Settles O56: CONSTRUCT's events are DIR_OUT events of the configured pins (`takeEvents_dirOut`). -/
theorem constructMakesItsPinsOutputs : Obligations.ConstructMakesItsPinsOutputs := by
  intro r e n
  rw [constructEvents_eq_map_dirOut, takeEvents_dirOut]
  obtain ⟨hbuf, hout⟩ := makeOutputs_shiftRegister e (configuredPins r)
  exact ⟨fun q hq => level_makeOutputs e _ (List.mem_append_left _ hq),
    fun i hi => level_makeOutputs e _ (hardPins_mem_configuredPins hi), portBit_makeOutputs e _, hbuf, hout, rfl⟩

/-- Settles O20: the outcome of the accepted command, the phases outside, and the reserved bits of F_PINS3. -/
theorem cfgShiftPinsWritesTheTriple : Obligations.CfgShiftPinsWritesTheTriple :=
  fun _ data sclk latch =>
    ⟨fun hp => (CommandOutcome.cfgShiftPins data sclk latch (.inl ⟨by decide, hp⟩)).exec_eq_of_silent,
      exec_config_of_not_unconfigured (i := .cfgShiftPins data sclk latch) (by simp [Instr.op, configOps]),
      fun _ => decode_or_rejectedIllegal .cfgShiftPins reserved_pins3_iff⟩

/-- Settles O21: as for O20, with a format that reserves no bit. -/
theorem cfgHardPinsWritesTheOctet : Obligations.CfgHardPinsWritesTheOctet :=
  fun _ pins =>
    ⟨fun hp => (CommandOutcome.cfgHardPins pins (.inl ⟨by decide, hp⟩)).exec_eq_of_silent,
      exec_config_of_not_unconfigured (i := .cfgHardPins pins) (by simp [Instr.op, configOps]),
      fun pl => ⟨bytes8Fields pl, bytes8Fields_getElem pl, decode_bytes8 (o := .cfgHardPins) rfl pl⟩⟩

/-- Settles O22: as for O20, with the fields and reserved bits of F_NIB8. -/
theorem cfgHardRcWritesTheMapping : Obligations.CfgHardRcWritesTheMapping := by
  refine fun s rc => ⟨fun hp => (CommandOutcome.cfgHardRc rc (.inl ⟨by decide, hp⟩)).exec_eq_of_silent,
    exec_config_of_not_unconfigured (i := .cfgHardRc rc) (by simp [Instr.op, configOps]), fun pl => ?_⟩
  obtain ⟨hdecode, hreject⟩ := decode_or_rejectedIllegal .cfgHardRc (reserved_nib8_iff (pl := pl))
  exact ⟨fun h => ⟨nib8Fields pl, nib8Fields_getElem pl, hdecode h⟩, hreject⟩

/-- Settles O23: as for O22, for the other mapping. -/
theorem cfgShiftRcWritesTheMapping : Obligations.CfgShiftRcWritesTheMapping := by
  refine fun s rc => ⟨fun hp => (CommandOutcome.cfgShiftRc rc (.inl ⟨by decide, hp⟩)).exec_eq_of_silent,
    exec_config_of_not_unconfigured (i := .cfgShiftRc rc) (by simp [Instr.op, configOps]), fun pl => ?_⟩
  obtain ⟨hdecode, hreject⟩ := decode_or_rejectedIllegal .cfgShiftRc (reserved_nib8_iff (pl := pl))
  exact ⟨fun h => ⟨nib8Fields pl, nib8Fields_getElem pl, hdecode h⟩, hreject⟩

/-- Settles O24: as for O20, with the fields and reserved bits of F_OFF8. -/
theorem cfgShiftOffWritesTheOffsets : Obligations.CfgShiftOffWritesTheOffsets := by
  refine fun s off => ⟨fun hp => (CommandOutcome.cfgShiftOff off (.inl ⟨by decide, hp⟩)).exec_eq_of_silent,
    exec_config_of_not_unconfigured (i := .cfgShiftOff off) (by simp [Instr.op, configOps]), fun pl => ?_⟩
  obtain ⟨hdecode, hreject⟩ := decode_or_rejectedIllegal .cfgShiftOff (reserved_off8_iff (pl := pl))
  refine ⟨fun hhigh hbits => ⟨off8Fields pl, off8Fields_getElem pl, hdecode ⟨hhigh, hbits⟩⟩, fun hset => hreject ?_⟩
  rintro ⟨hhigh, hbits⟩
  obtain hne | ⟨i, hi⟩ := hset
  · exact hne hhigh
  · simp [hbits i] at hi

/-- Settles O25: the value check comes after the phase check. -/
theorem cfgCountsWritesLegalCounts : Obligations.CfgCountsWritesLegalCounts :=
  fun _ hn sn =>
    ⟨fun hp hh hs => (CommandOutcome.cfgCounts hn sn (.inl ⟨by decide, hp⟩) ⟨hh, hs⟩).exec_eq_of_silent,
      fun hp hill => (CommandOutcome.illegalCounts hn sn (.inl ⟨by decide, hp⟩) hill).exec_eq_of_silent,
      exec_config_of_not_unconfigured (i := .cfgCounts hn sn) (by simp [Instr.op, configOps]),
      fun _ => decode_or_rejectedIllegal .cfgCounts reserved_cnt_iff⟩

/-- Settles O27: the second SET_PIXELS writes what the first one wrote. -/
theorem setPixelsReplacesTheBitmap : Obligations.SetPixelsReplacesTheBitmap := by
  intro s rows
  have hexec {u : State} (hready : u.regs.phase = .ready) :
      exec (.setPixels rows) u = .next { u with regs := u.regs.clearFresh.setPixels rows } :=
    (CommandOutcome.setPixels rows ((acceptedIn_iff_ready (by decide)).2 hready)).exec_eq_of_silent
  refine ⟨hexec, exec_readyOp_of_not_ready (i := .setPixels rows) (by simp [Instr.op, readyOps]),
    fun hready => ⟨_, hexec hready, hexec hready⟩, fun pl => ?_⟩
  exact ⟨bytes8Fields pl, bytes8Fields_getElem pl, decode_bytes8 (o := .setPixels) rfl pl⟩

end Sys2Proof.Machine
end

section
/-!
PROOFS of the family 41_pin_router. A position's route said by its claims (`routeOf_eq_direct`, `routeOf_eq_shifted`,
`routeOf_eq_unresolved_iff`), and its claims counted in the list of all positions claimed (`claims_length_eq_count`).
-/
namespace Sys2Proof.Machine

open Sys2Proof.Claims

/-! ## Routes -/

/-- A strictly increasing list begins with its least member. -/
theorem exists_cons_of_least {α : Type} [Preorder α] {l : List α} (hl : l.Pairwise (· < ·)) {i : α} (hi : i ∈ l)
    (hleast : ∀ k ∈ l, i ≤ k) : ∃ t, l = i :: t := by
  cases hl with
  | nil => simp at hi
  | @cons a t hlt _ =>
    obtain rfl | ht := List.mem_cons.1 hi
    · exact ⟨t, rfl⟩
    · exact absurd (hleast a List.mem_cons_self) (hlt i ht).not_ge

theorem hardClaims_eq_nil_iff {w : Wiring} {p : Pos} : hardClaims w p = [] ↔ ∀ i, ¬ hardClaim w p i := by
  simp only [List.eq_nil_iff_forall_not_mem, mem_hardClaims]

theorem shiftClaims_eq_nil_iff {w : Wiring} {p : Pos} : shiftClaims w p = [] ↔ ∀ j, ¬ shiftClaim w p j := by
  simp only [List.eq_nil_iff_forall_not_mem, mem_shiftClaims]

/-- Hardwired mapping first, lowest index (41_pin_router.md R141, R144). -/
theorem routeOf_eq_direct {w : Wiring} {p : Pos} {i : Fin 8} (hi : hardClaim w p i)
    (hleast : ∀ k, hardClaim w p k → i ≤ k) : routeOf w p = .direct w.hardPins[i] := by
  obtain ⟨t, ht⟩ := exists_cons_of_least (hardClaims_pairwise w p) (mem_hardClaims.2 hi)
    fun k hk => hleast k (mem_hardClaims.1 hk)
  rw [routeOf, ht]

/-- The shift mapping when no hardwired entry claims the position, lowest index (R142, R144). -/
theorem routeOf_eq_shifted {w : Wiring} {p : Pos} {j : Fin 8} (hhard : ∀ i, ¬ hardClaim w p i) (hj : shiftClaim w p j)
    (hleast : ∀ k, shiftClaim w p k → j ≤ k) : routeOf w p = .shifted w.shiftOff[j] := by
  obtain ⟨t, ht⟩ := exists_cons_of_least (shiftClaims_pairwise w p) (mem_shiftClaims.2 hj)
    fun k hk => hleast k (mem_shiftClaims.1 hk)
  rw [routeOf, hardClaims_eq_nil_iff.2 hhard, ht]

/-- UNRESOLVED is the route of the positions no entry claims, and of no other (R143). -/
theorem routeOf_eq_unresolved_iff {w : Wiring} {p : Pos} : routeOf w p = .unresolved ↔ claimedByNone w p := by
  rw [claimedByNone, ← hardClaims_eq_nil_iff, ← shiftClaims_eq_nil_iff, routeOf]
  cases hardClaims w p with
  | cons i is => simp
  | nil => cases shiftClaims w p <;> simp

/-! ## Warnings -/

/-- The warning bits of a route build, each with its condition (R145, R146). -/
theorem routeWarnings_getLsbD_eq (w : Wiring) (k : Nat) :
    (routeWarnings w).getLsbD k = (dupClaim w && k == 5 || uncovered w && k == 6) := by
  cases hd : dupClaim w <;> cases hu : uncovered w <;> simp [routeWarnings, hd, hu, Cause.code]

/-- Bit 5 of STATUS after a route build (R145). -/
theorem Regs.rebuildRoutes_warnDupClaim_iff (r : Regs) :
    r.rebuildRoutes.status.getLsbD 5 = true ↔ r.status.getLsbD 5 = true ∨ ∃ p, claimedTwice r.wiring p := by
  rw [Regs.rebuildRoutes_status, BitVec.getLsbD_or, routeWarnings_getLsbD_eq, ← dupClaim_iff]
  simp

/-- Bit 6 of STATUS after a route build (R146). -/
theorem Regs.rebuildRoutes_warnUncovered_iff (r : Regs) :
    r.rebuildRoutes.status.getLsbD 6 = true ↔ r.status.getLsbD 6 = true ∨ ∃ p, claimedByNone r.wiring p := by
  rw [Regs.rebuildRoutes_status, BitVec.getLsbD_or, routeWarnings_getLsbD_eq, ← uncovered_iff]
  simp

/-! ## Counting claims -/

/-- The positions claimed, one for each entry below its array's count, hardwired entries first (R140). -/
def claimedPositions (w : Wiring) : List Nat :=
  (w.hardRc.toList.take w.hardN.toNat ++ w.shiftRc.toList.take w.shiftN.toNat).map BitVec.toNat

/-- The entries below the count that name the position are as many as its occurrences among them. -/
theorem length_filter_eq_count (rc : Vector PosField 8) (n k : Nat) :
    ((List.finRange 8).filter fun i => decide (i.val < n) && decide (rc[i].toNat = k)).length =
      ((rc.toList.take n).map BitVec.toNat).count k := by
  rw [vector_take_eq_map_filter, List.count_eq_countP, List.map_map, List.countP_map, List.countP_filter,
    List.countP_eq_length_filter]
  simp only [Bool.and_comm, Function.comp_apply, beq_eq_decide]

/-- A position has as many claims as it has occurrences among the positions claimed. -/
theorem claims_length_eq_count (w : Wiring) (p : Pos) :
    (hardClaims w p).length + (shiftClaims w p).length = (claimedPositions w).count p.val := by
  rw [claimedPositions, List.map_append, List.count_append, ← length_filter_eq_count, ← length_filter_eq_count]
  rfl

theorem claimedTwice_iff_count {w : Wiring} {p : Pos} : claimedTwice w p ↔ 2 ≤ (claimedPositions w).count p.val := by
  rw [← claims_length_eq_count, two_le_claims_iff]

theorem claimedByNone_iff_count {w : Wiring} {p : Pos} : claimedByNone w p ↔ (claimedPositions w).count p.val = 0 := by
  rw [← claims_length_eq_count, Nat.add_eq_zero_iff, List.length_eq_zero_iff, List.length_eq_zero_iff,
    hardClaims_eq_nil_iff, shiftClaims_eq_nil_iff]

theorem claimedPositions_length_le (w : Wiring) : (claimedPositions w).length ≤ w.hardN.toNat + w.shiftN.toNat := by
  simp only [claimedPositions, List.length_map, List.length_append, List.length_take]
  omega

/-- Sixteen positions need sixteen entries (R148). -/
theorem exists_claimedByNone {w : Wiring} (h : w.hardN.toNat + w.shiftN.toNat < 16) : ∃ p, claimedByNone w p := by
  by_contra hall
  have hsub : List.range 16 ⊆ claimedPositions w := by
    intro k hk
    by_contra hnot
    exact hall ⟨⟨k, List.mem_range.1 hk⟩, claimedByNone_iff_count.2 (List.count_eq_zero.2 hnot)⟩
  have hlen : 16 ≤ (claimedPositions w).length := (List.nodup_range.subperm hsub).length_le
  have hle := claimedPositions_length_le w
  omega

/-! ## Well-formed wiring -/

section
variable {w : Wiring} (h : wellFormedWiring w)
include h

/-- The positions claimed are the sixteen positions, in some order (R148). -/
theorem claimedPositions_perm_range : (claimedPositions w).Perm (List.range 16) := by
  obtain ⟨hhard, hshift, hperm⟩ := h
  have htake (rc : Vector PosField 8) : rc.toList.take (8 : Count).toNat = rc.toList := List.take_of_length_le (by simp)
  rwa [claimedPositions, hhard, hshift, htake, htake]

theorem count_claimedPositions (p : Pos) : (claimedPositions w).count p.val = 1 := by
  rw [(claimedPositions_perm_range h).count_eq]
  exact List.count_eq_one_of_mem List.nodup_range (List.mem_range.2 p.isLt)

theorem not_claimedTwice_of_wellFormed (p : Pos) : ¬ claimedTwice w p := by
  rw [claimedTwice_iff_count, count_claimedPositions h]
  decide

theorem not_claimedByNone_of_wellFormed (p : Pos) : ¬ claimedByNone w p := by
  rw [claimedByNone_iff_count, count_claimedPositions h]
  decide

theorem dupClaim_of_wellFormed : dupClaim w = false := by
  rw [← Bool.not_eq_true, dupClaim_iff]
  exact fun ⟨p, hp⟩ => not_claimedTwice_of_wellFormed h p hp

theorem uncovered_of_wellFormed : uncovered w = false := by
  rw [← Bool.not_eq_true, uncovered_iff]
  exact fun ⟨p, hp⟩ => not_claimedByNone_of_wellFormed h p hp

/-- The claiming entry is the only one, so it is the least of its array. -/
theorem routeOf_of_hardClaim {p : Pos} {i : Fin 8} (hi : hardClaim w p i) : routeOf w p = .direct w.hardPins[i] := by
  refine routeOf_eq_direct hi fun k hk => ?_
  by_contra hlt
  exact not_claimedTwice_of_wellFormed h p (.inl ⟨i, k, fun hik => hlt hik.le, hi, hk⟩)

theorem routeOf_of_shiftClaim {p : Pos} {j : Fin 8} (hj : shiftClaim w p j) :
    routeOf w p = .shifted w.shiftOff[j] := by
  refine routeOf_eq_shifted (fun i hi => ?_) hj fun k hk => ?_
  · exact not_claimedTwice_of_wellFormed h p (.inr (.inr ⟨i, j, hi, hj⟩))
  · by_contra hlt
    exact not_claimedTwice_of_wellFormed h p (.inr (.inl ⟨j, k, fun hjk => hlt hjk.le, hj, hk⟩))

end

end Sys2Proof.Machine
end

section
/-!
PROOFS of the family 41_pin_router: the obligations, each a short use of the lemmas above.
-/
namespace Sys2Proof.Machine

open Sys2Proof.Claims

/-- Settles O37: a route is the least claim of the first mapping that has one. -/
theorem routesFollowTheClaims : Obligations.RoutesFollowTheClaims := by
  intro w p
  rw [buildRoutes_getElem]
  exact ⟨fun _ => routeOf_eq_direct, fun _ => routeOf_eq_shifted, routeOf_eq_unresolved_iff.2⟩

/-- Settles O38: the positions left UNRESOLVED are those no entry claims. -/
theorem routeBuildWarnings : Obligations.RouteBuildWarnings := by
  refine fun r => ⟨r.rebuildRoutes_warnDupClaim_iff, ?_, r.rebuildRoutes_route⟩
  simp only [Regs.rebuildRoutes_route, buildRoutes_getElem, routeOf_eq_unresolved_iff]
  exact r.rebuildRoutes_warnUncovered_iff

/-- Settles O39: every position occurs once among the positions claimed; fewer than sixteen entries miss one. -/
theorem wellFormedWiringResolvesEveryPosition : Obligations.WellFormedWiringResolvesEveryPosition := by
  simp only [Obligations.WellFormedWiringResolvesEveryPosition, buildRoutes_getElem, ne_eq, routeOf_eq_unresolved_iff]
  refine ⟨fun w h => ⟨fun p => ?_, dupClaim_of_wellFormed h, uncovered_of_wellFormed h,
    fun _ _ => routeOf_of_hardClaim h, fun _ _ => routeOf_of_shiftClaim h⟩, fun w => exists_claimedByNone⟩
  have hsome := not_claimedByNone_of_wellFormed h p
  exact ⟨not_claimedTwice_of_wellFormed h p, hsome, hsome⟩

/-- Settles O45: each of the spec's examples evaluates to its listed value. -/
theorem routePatternAndFrameExamples : Obligations.RoutePatternAndFrameExamples := by
  unfold Obligations.RoutePatternAndFrameExamples
  decide

end Sys2Proof.Machine
end

section
/-!
PROOFS of the family 42_pattern_generator. What lighting one pixel does to a column bit and to a row bit, folded over the
columns of a row (`rowPattern_getLsbD_column`, `rowPattern_getLsbD_row`), and from the two halves the closed form of a row's
pattern (`rowPattern_eq`).
-/
namespace Sys2Proof.Machine

/-! ## One pixel -/

/-- The inner loop's body of 42_pattern_generator.md R160: a set pixel selects its row line and drives its column. -/
def lightPixel (r : Nat) (row : Byte) (pat : RowColBits) (c : Nat) : RowColBits :=
  if row.getLsbD c then setBit (clearBit pat (8 + r)) c else pat

theorem rowPattern_eq_foldl (r : Nat) (row : Byte) :
    rowPattern r row = (List.range 8).foldl (lightPixel r row) Config.blank := rfl

/-- A set pixel drives its own column and no other (R164). -/
theorem lightPixel_getLsbD_column (r : Nat) (row : Byte) (pat : RowColBits) (c : Nat) {k : Nat} (hk : k < 8) :
    (lightPixel r row pat c).getLsbD k = (pat.getLsbD k || decide (k = c) && row.getLsbD c) := by
  have hrow : k ≠ 8 + r := by omega
  have hcol : (decide (k = c) && decide (c < 16)) = decide (k = c) := by
    simpa using fun h : k = c => h ▸ hk.trans (by decide : 8 < 16)
  cases hlit : row.getLsbD c <;> simp [lightPixel, hlit, hrow, hcol]

/-- A set pixel selects its own row line and no other (R163). -/
theorem lightPixel_getLsbD_row (r : Nat) (row : Byte) (pat : RowColBits) {c : Nat} (hc : c < 8) (a : Nat) :
    (lightPixel r row pat c).getLsbD (8 + a) = (pat.getLsbD (8 + a) && !(decide (a = r) && row.getLsbD c)) := by
  have hcol : 8 + a ≠ c := by omega
  cases hlit : row.getLsbD c <;> simp [lightPixel, hlit, hcol]

/-! ## The pixels of a row -/

theorem foldl_lightPixel_getLsbD_column (r : Nat) (row : Byte) (cs : List Nat) (pat : RowColBits) {k : Nat} (hk : k < 8) :
    (cs.foldl (lightPixel r row) pat).getLsbD k = (pat.getLsbD k || decide (k ∈ cs) && row.getLsbD k) := by
  induction cs generalizing pat with
  | nil => simp
  | cons c cs ih =>
    rw [List.foldl_cons, ih, lightPixel_getLsbD_column r row pat c hk]
    by_cases hkc : k = c
    · subst hkc
      cases row.getLsbD k <;> simp
    · simp [hkc]

theorem foldl_lightPixel_getLsbD_row (r : Nat) (row : Byte) {cs : List Nat} (hcs : ∀ c ∈ cs, c < 8) (pat : RowColBits)
    (a : Nat) :
    (cs.foldl (lightPixel r row) pat).getLsbD (8 + a) =
      (pat.getLsbD (8 + a) && !(decide (a = r) && cs.any row.getLsbD)) := by
  induction cs generalizing pat with
  | nil => simp
  | cons c cs ih =>
    obtain ⟨hc, hcs⟩ := List.forall_mem_cons.1 hcs
    rw [List.foldl_cons, ih hcs, lightPixel_getLsbD_row r row pat hc a, List.any_cons, Bool.and_assoc, ← Bool.not_or,
      ← Bool.and_or_distrib_left]

/-- A row has a lit pixel exactly when its byte is not 0. -/
theorem any_range_getLsbD (row : Byte) : (List.range 8).any row.getLsbD = decide (row ≠ 0) := by
  rw [Bool.eq_iff_iff, decide_eq_true_iff, List.any_eq_true]
  constructor
  · rintro ⟨c, -, hlit⟩ rfl
    simp at hlit
  · intro hne
    by_contra hnone
    refine hne (BitVec.eq_of_getLsbD_eq fun c hc => ?_)
    simpa using fun hlit => hnone ⟨c, List.mem_range.2 hc, hlit⟩

theorem blank_getLsbD_column {k : Nat} (hk : k < 8) : Config.blank.getLsbD k = false :=
  (by decide : ∀ c : Fin 8, Config.blank.getLsbD c.val = false) ⟨k, hk⟩

theorem blank_getLsbD_row {a : Nat} (ha : a < 8) : Config.blank.getLsbD (8 + a) = true :=
  (by decide : ∀ b : Fin 8, Config.blank.getLsbD (8 + b.val) = true) ⟨a, ha⟩

/-- The column bits of a pattern are its pixel byte (R164). -/
theorem rowPattern_getLsbD_column (r : Nat) (row : Byte) {k : Nat} (hk : k < 8) :
    (rowPattern r row).getLsbD k = row.getLsbD k := by
  rw [rowPattern_eq_foldl, foldl_lightPixel_getLsbD_column r row _ _ hk, blank_getLsbD_column hk]
  simp [hk]

/-- The row bits of a pattern are 1, but for the row's own when it has a lit pixel (R163, R165). -/
theorem rowPattern_getLsbD_row (r : Nat) (row : Byte) {a : Nat} (ha : a < 8) :
    (rowPattern r row).getLsbD (8 + a) = !(decide (a = r) && decide (row ≠ 0)) := by
  rw [rowPattern_eq_foldl, foldl_lightPixel_getLsbD_row r row (fun _ => List.mem_range.1), blank_getLsbD_row ha,
    any_range_getLsbD, Bool.true_and]

/-- The mask of the row line to clear, bit by bit: only row line r, and only when the row has a lit pixel. -/
theorem rowMask_getLsbD_row (r : Nat) (row : Byte) {a : Nat} (ha : a < 8) :
    ((if row ≠ 0 then 1#16 else 0#16) <<< (8 + r)).getLsbD (8 + a) = (decide (a = r) && decide (row ≠ 0)) := by
  split
  next hlit =>
    have hwidth : a = r → 8 + r < 16 := by omega
    rw [← oneHot, oneHot_getLsbD, decide_eq_true hlit, Bool.and_true]
    simpa using hwidth
  next hempty => rw [BitVec.zero_shiftLeft, BitVec.getLsbD_zero, decide_eq_false hempty, Bool.and_false]

/-- The closed form of one row's pattern, its two halves compared bit by bit (R166). -/
theorem rowPattern_eq (r : Nat) (row : Byte) :
    rowPattern r row = (Config.blank &&& ~~~((if row ≠ 0 then 1#16 else 0#16) <<< (8 + r))) ||| row.setWidth 16 := by
  refine BitVec.eq_of_getLsbD_eq fun j hj => ?_
  rw [BitVec.getLsbD_or, BitVec.getLsbD_and, BitVec.getLsbD_not, BitVec.getLsbD_setWidth, decide_eq_true hj,
    Bool.true_and, Bool.true_and]
  obtain hk | ⟨a, rfl⟩ : j < 8 ∨ ∃ a, j = 8 + a := (Nat.lt_or_ge j 8).imp_right Nat.exists_eq_add_of_le
  · rw [rowPattern_getLsbD_column r row hk, blank_getLsbD_column hk, Bool.false_and, Bool.false_or]
  · have ha : a < 8 := by omega
    rw [rowPattern_getLsbD_row r row ha, blank_getLsbD_row ha, rowMask_getLsbD_row r row ha,
      BitVec.getLsbD_of_ge row _ (by omega), Bool.true_and, Bool.or_false]

/-! ## Generate -/

/-- PATTERN[k] comes from source row 7 - k (R161). -/
theorem generate_getElem (pixels : Vector Byte 8) {k r : Fin 8} (h : r.val + k.val = 7) :
    (generate pixels)[k] = rowPattern r.val pixels[r] := by
  have hr : r.val = 7 - k.val := by omega
  simp [generate, hr]

end Sys2Proof.Machine
end

section
/-!
PROOFS of the family 42_pattern_generator: the obligations, read off the bits of the source row's pattern.
-/
namespace Sys2Proof.Machine

open Sys2Proof.Claims

/-- Settles O40: the closed form of source row 7 - k. -/
theorem patternClosedForm : Obligations.PatternClosedForm := by
  intro pixels k r h
  rw [generate_getElem pixels h, rowPattern_eq]

/-- Settles O41: the row bits of source row 7 - k, and for the fully lit bitmap its column bits. -/
theorem eachPatternSelectsAtMostOneRow : Obligations.EachPatternSelectsAtMostOneRow := by
  have hselect (pixels : Vector Byte 8) (k r : Fin 8) (h : r.val + k.val = 7) (a : Fin 8) :
      (generate pixels)[k].getLsbD (8 + a.val) = false ↔ a = r ∧ pixels[r] ≠ 0 := by
    rw [generate_getElem pixels h, rowPattern_getLsbD_row _ _ a.isLt]
    simp [Fin.ext_iff]
  have hbyte (r : Fin 8) : (Vector.replicate 8 (0xFF : Byte))[r] = BitVec.allOnes 8 := Vector.getElem_replicate r.isLt
  refine ⟨hselect, fun k r h a => ⟨?_, ?_⟩⟩
  · rw [hselect _ k r h a, hbyte]
    exact and_iff_left (by decide)
  · rw [generate_getElem _ h, rowPattern_getLsbD_column _ _ a.isLt, hbyte, BitVec.getLsbD_allOnes]
    exact decide_eq_true a.isLt

end Sys2Proof.Machine
end

section
/-!
PROOFS of the family 43_output_compiler. A compiled slot observed through one of its bits (`compileSlot_bit`): each position
toggles the bit when its route drives it (`addRouted_sh_getLsbD` and its LO and HI forms), so the sixteen toggles are a parity.
-/
namespace Sys2Proof.Machine

open Sys2Proof.Claims

/-! ## One routed bit -/

/-- The route leads to bit b of SH (43_output_compiler.md R184). -/
def Route.drivesSh (b : Nat) : Route → Bool
  | .shifted o => decide (o.toNat = b)
  | _ => false

/-- The route leads to bit b of LO: a pin of the low group (R183). -/
def Route.drivesLo (b : Nat) : Route → Bool
  | .direct q => decide (q.toNat < 8 ∧ q.toNat = b)
  | _ => false

/-- The route leads to bit b of HI: a pin of the high group, b its number modulo 8 (R183). -/
def Route.drivesHi (b : Nat) : Route → Bool
  | .direct q => decide (8 ≤ q.toNat ∧ q.toNat % 8 = b)
  | _ => false

section
variable (acc : Slot) (rt : Route) (v : Bool) (b : Nat)

theorem addRouted_sh_getLsbD :
    (acc.addRouted rt v).sh.getLsbD b = (acc.sh.getLsbD b ^^ (v && rt.drivesSh b)) := by
  cases rt with
  | unresolved => simp [Slot.addRouted, Route.drivesSh]
  | direct pin => cases hg : groupOf pin <;> simp [Slot.addRouted, Route.drivesSh, hg]
  | shifted o =>
    have ho : o.toNat < 8 := o.isLt
    simp [Slot.addRouted, Route.drivesSh, ho, eq_comm (a := b)]

theorem addRouted_lo_getLsbD :
    (acc.addRouted rt v).lo.getLsbD b = (acc.lo.getLsbD b ^^ (v && rt.drivesLo b)) := by
  cases rt with
  | unresolved | shifted => simp [Slot.addRouted, Route.drivesLo]
  | direct pin =>
    by_cases hpin : pin.toNat < 8
    · simp [Slot.addRouted, Route.drivesLo, groupOf, hpin, bitOf, Nat.mod_eq_of_lt hpin, eq_comm (a := b)]
    · simp [Slot.addRouted, Route.drivesLo, groupOf, hpin]

theorem addRouted_hi_getLsbD :
    (acc.addRouted rt v).hi.getLsbD b = (acc.hi.getLsbD b ^^ (v && rt.drivesHi b)) := by
  cases rt with
  | unresolved | shifted => simp [Slot.addRouted, Route.drivesHi]
  | direct pin =>
    have hbit : pin.toNat % 8 < 8 := Nat.mod_lt _ (by decide)
    by_cases hpin : pin.toNat < 8
    · simp [Slot.addRouted, Route.drivesHi, groupOf, hpin, Nat.not_le_of_lt hpin]
    · simp [Slot.addRouted, Route.drivesHi, groupOf, hpin, hbit, bitOf, Nat.le_of_not_lt hpin, eq_comm (a := b)]

end

/-! ## Sixteen routed bits -/

/-- A bit toggled once for each member that satisfies `f` is flipped by the parity of their number. -/
theorem foldl_toggle_eq_xor_parity {α σ : Type} {bit : σ → Bool} {f : α → Bool} {add : σ → α → σ}
    (hadd : ∀ acc p, bit (add acc p) = (bit acc ^^ f p)) (ps : List α) (acc : σ) :
    bit (ps.foldl add acc) = (bit acc ^^ (ps.countP f % 2 == 1)) := by
  induction ps generalizing acc with
  | nil => simp
  | cons p ps ih =>
    rw [List.foldl_cons, ih, hadd, List.countP_cons]
    cases f p
    · simp
    · obtain h | h := Nat.mod_two_eq_zero_or_one (ps.countP f) <;> simp [Nat.add_mod, h]

/-- A bit of a compiled slot is the parity of the pattern bits whose route drives it (R189). -/
theorem compileSlot_bit {bit : Slot → Bool} {drives : Route → Bool} (hzero : bit Slot.zero = false)
    (hadd : ∀ acc rt v, bit (acc.addRouted rt v) = (bit acc ^^ (v && drives rt))) (route : Vector Route 16)
    (pat : RowColBits) :
    bit (compileSlot route pat) = xorOver fun p => pat.getLsbD p.val && drives route[p] := by
  have htoggle (acc : Slot) (p : Pos) := hadd acc route[p] (pat.getLsbD p.val)
  calc bit (compileSlot route pat)
    _ = (bit Slot.zero ^^ xorOver fun p => pat.getLsbD p.val && drives route[p]) :=
      foldl_toggle_eq_xor_parity htoggle (List.finRange 16) Slot.zero
    _ = _ := by rw [hzero, Bool.false_xor]

/-! ## The frame -/

theorem allResolved_iff {route : Vector Route 16} : allResolved route = true ↔ ∀ p : Pos, route[p] ≠ .unresolved := by
  simp [allResolved]

/-- A slot of a resolved frame is compiled from the pattern of its scan slot (R180, R182). -/
theorem compile_getElem_of_resolved {route : Vector Route 16} (h : ∀ p : Pos, route[p] ≠ .unresolved)
    (pattern : Vector RowColBits 8) (s : Fin 16) :
    (compile pattern route).1[s] = compileSlot route (scanPattern pattern s) := by
  simp [compile_of_resolved (allResolved_iff.2 h)]

theorem scanPattern_eq_slotPattern (pattern : Vector RowColBits 8) (s : Fin 16) :
    scanPattern pattern s = slotPattern pattern s := rfl

/-- An odd scan slot is blank (R182). -/
theorem scanPattern_of_odd {s : Fin 16} (hs : s.val % 2 = 1) (pattern : Vector RowColBits 8) :
    scanPattern pattern s = Config.blank := by
  simp [scanPattern, hs]

/-- A dark row selects no row line and drives no column (42_pattern_generator.md R165). -/
theorem rowPattern_zero (r : Nat) : rowPattern r 0#8 = Config.blank := by
  simp [rowPattern_eq]

/-- Every scan slot of the all-zero bitmap is blank, even or odd (43_output_compiler.md R190). -/
theorem scanPattern_generate_zero (s : Fin 16) :
    scanPattern (generate (Vector.replicate 8 0)) s = Config.blank := by
  obtain hs | hs := Nat.mod_two_eq_zero_or_one s.val
  · simp [scanPattern, hs, generate, rowPattern_zero]
  · exact scanPattern_of_odd hs _

/-! ## Commands that render -/

/-- A command that renders presents nothing from an invalid frame, whether its phase accepts it or not (R187). -/
theorem CommandOutcome.exists_silent_of_invalid {i : Instr} (hi : i.op ∈ [Op.refresh, .refreshWait, .shutdown]) {r : Regs}
    (hinvalid : r.frameValid = false) : ∃ r', CommandOutcome i r r' [] := by
  by_cases hacc : acceptedIn i.op r
  · exact ⟨_, .renderFault hi hacc hinvalid⟩
  · exact ⟨_, .turnedAway hacc⟩

end Sys2Proof.Machine
end

section
/-!
PROOFS of the family 43_output_compiler: the obligations, each a short use of the lemmas above.
-/
namespace Sys2Proof.Machine

open Sys2Proof.Claims

/-- Settles O42: each byte's bits are parities by its own toggle rule, and an odd slot's pattern is always BLANK. -/
theorem compiledFrameClosedForm : Obligations.CompiledFrameClosedForm := by
  intro pattern route hroute
  simp only [compile_getElem_of_resolved hroute, ← scanPattern_eq_slotPattern]
  refine ⟨fun s b => ⟨?_, ?_, ?_⟩, fun s t hs ht => ?_⟩
  · exact compileSlot_bit (bit := (·.sh.getLsbD b.val)) BitVec.getLsbD_zero (addRouted_sh_getLsbD · · · b.val) route _
  · exact compileSlot_bit (bit := (·.lo.getLsbD b.val)) BitVec.getLsbD_zero (addRouted_lo_getLsbD · · · b.val) route _
  · exact compileSlot_bit (bit := (·.hi.getLsbD b.val)) BitVec.getLsbD_zero (addRouted_hi_getLsbD · · · b.val) route _
  · rw [scanPattern_of_odd hs, scanPattern_of_odd ht]

/-- Settles O43: FRAME_VALID is whether every route is resolved, and without it a command that renders is silent. -/
theorem unresolvedRouteInvalidatesTheFrame : Obligations.UnresolvedRouteInvalidatesTheFrame := by
  refine ⟨fun pattern route => ⟨fun ⟨p, hp⟩ => ?_, fun hroute => ?_⟩, fun i s hi hinvalid => ?_⟩
  · have hunresolved : allResolved route = false := by
      rw [Bool.eq_false_iff, ne_eq, allResolved_iff]
      exact fun h => h p hp
    rw [compile_of_unresolved hunresolved]
    exact ⟨rfl, fun s => Vector.getElem_replicate s.isLt⟩
  · rw [compile_snd, allResolved_iff.2 hroute]
  · obtain ⟨r', ho⟩ := CommandOutcome.exists_silent_of_invalid hi hinvalid
    exact ⟨_, ho.exec_eq_of_silent, rfl⟩

/-- Settles O44: every slot of the all-zero bitmap is compiled from BLANK, as is every odd slot. -/
theorem allZeroBitmapGivesBlankSlots : Obligations.AllZeroBitmapGivesBlankSlots := by
  intro pattern route hroute s t ht
  rw [compile_getElem_of_resolved hroute, compile_getElem_of_resolved hroute, scanPattern_generate_zero,
    scanPattern_of_odd ht]

end Sys2Proof.Machine
end

section
/-!
PROOFS of the family 44_serializer. The events of a slot counted bit by bit and those of a refresh slot by slot
(44_serializer.md R200 to R208), and the two ways a command that renders ends in READY (R205).
-/
namespace Sys2Proof.Machine

open Sys2Proof.Claims

/-! ## One slot -/

/-- A slot's events of one kind are those of its eight bits, of the latch pulse and of the two groups (R200). -/
theorem emitSlot_count (p : ShiftPins) (sl : Slot) (e : Event) :
    (emitSlot p sl).count e =
      ((List.range 8).map fun b => (emitBit p (sl.sh.getLsbD b)).count e).sum +
        [.pin p.latch true, .pin p.latch false, .group .lo sl.lo, .group .hi sl.hi].count e := by
  rw [emitSlot, List.count_append, List.count_flatMap]
  rfl

@[simp] theorem emitSlot_length (p : ShiftPins) (sl : Slot) : (emitSlot p sl).length = 28 := rfl

section
variable {p : ShiftPins} (sl : Slot)

/-- One bit gives one clock pulse, when the data pin is another (R202). -/
theorem emitBit_count_clock (hdata : p.sclk ≠ p.data) (v : Bool) : (emitBit p v).count (.pin p.sclk true) = 1 := by
  simp [emitBit, hdata.symm]

/-- A bit leaves the latch pin alone, when it is neither of the other two. -/
theorem emitBit_count_latch (hclock : p.sclk ≠ p.latch) (hdata : p.latch ≠ p.data) (v : Bool) :
    (emitBit p v).count (.pin p.latch true) = 0 := by
  simp [emitBit, hclock, hdata.symm]

theorem emitSlot_count_clock (hdata : p.sclk ≠ p.data) (hlatch : p.sclk ≠ p.latch) :
    (emitSlot p sl).count (.pin p.sclk true) = 8 := by
  simp [emitSlot_count, emitBit_count_clock hdata, hlatch.symm]

theorem emitSlot_count_latch (hclock : p.sclk ≠ p.latch) (hdata : p.latch ≠ p.data) :
    (emitSlot p sl).count (.pin p.latch true) = 1 := by
  simp [emitSlot_count, emitBit_count_latch hclock hdata]

end

/-! ## One refresh -/

@[simp] theorem renderEvents_length (r : Regs) : (renderEvents r).length = 448 := by
  simp [renderEvents, List.length_flatMap]

/-- An event every slot holds `k` times is there `16 * k` times in a refresh (R205). -/
theorem renderEvents_count {r : Regs} {e : Event} {k : Nat}
    (hslot : ∀ sl, (emitSlot r.shiftPins sl).count e = k) : (renderEvents r).count e = 16 * k := by
  simp only [renderEvents, List.count_flatMap, Function.comp_def, hslot, List.map_const', List.sum_replicate,
    List.length_finRange, smul_eq_mul]

/-! ## The commands that render, in READY -/

/-- With an invalid frame a command that renders faults and presents nothing (R205). -/
theorem exec_of_invalid_frame {i : Instr} (hi : i.op ∈ [Op.refresh, .refreshWait, .shutdown]) {s : State}
    (hready : s.regs.phase = .ready) (hinvalid : s.regs.frameValid = false) :
    exec i s = .next { s with regs := s.regs.clearFresh.takeFault .faultUnresolved } := by
  have hsub : ∀ o ∈ [Op.refresh, .refreshWait, .shutdown], o ∈ readyOps := by decide
  exact (CommandOutcome.renderFault hi ((acceptedIn_iff_ready (hsub _ hi)).2 hready) hinvalid).exec_eq_of_silent

section
variable {s : State} (hready : s.regs.phase = .ready) (hvalid : s.regs.frameValid = true)
include hready hvalid

/-- REFRESH with a valid frame (R206). -/
theorem exec_refresh_of_valid : exec .refresh s = .next (s.afterCommand s.regs.clearFresh (renderEvents s.regs)) :=
  (CommandOutcome.refresh ((acceptedIn_iff_ready (by decide)).2 hready) hvalid).exec_eq

/-- REFRESH_WAIT with a valid frame (R207). -/
theorem exec_refreshWait_of_valid (us : BitVec 32) :
    exec (.refreshWait us) s =
      .next (s.afterCommand s.regs.clearFresh (renderEvents s.regs ++ [.delay us])) :=
  (CommandOutcome.refreshWait us ((acceptedIn_iff_ready (by decide)).2 hready) hvalid).exec_eq

/-- SHUTDOWN with a valid frame, under the invariant R39 (40_lifecycle.md R121). -/
theorem exec_shutdown_of_valid (hcaches : cachesConsistent s.regs) :
    exec .shutdown s =
      .next (s.afterCommand { s.regs.clearFresh.setPixels allOff with phase := .dead }
        (renderEvents (s.regs.clearFresh.setPixels allOff))) :=
  (CommandOutcome.shutdown ((acceptedIn_iff_ready (by decide)).2 hready) hvalid
    (allResolved_of_frameValid hcaches hvalid)).exec_eq

end

end Sys2Proof.Machine
end

section
/-!
PROOFS of the family 44_serializer: the obligations, each a short use of the lemmas above.
-/
namespace Sys2Proof.Machine

open Sys2Proof.Claims

/-- Settles O36: sixteen slots of 28 events, each with eight clock pulses and one latch pulse; a valid frame is rendered
once by each of the three commands, an invalid one by none. -/
theorem eventCounts : Obligations.EventCounts := by
  refine ⟨emitSlot_length, fun r => ⟨renderEvents_length r, fun hcd hcl hld => ⟨?clock, ?latch⟩⟩,
    fun s us hready hcaches => ?commands⟩
  case clock => exact renderEvents_count (emitSlot_count_clock · hcd hcl)
  case latch => exact renderEvents_count (emitSlot_count_latch · hcl hld)
  case commands =>
    cases hvalid : s.regs.frameValid with
    | true =>
      refine ⟨_, _, _, exec_refresh_of_valid hready hvalid, exec_refreshWait_of_valid hready hvalid us,
        exec_shutdown_of_valid hready hvalid hcaches, ?_⟩
      simp
    | false =>
      have hfault {i : Instr} (hi : i.op ∈ [Op.refresh, .refreshWait, .shutdown]) :=
        exec_of_invalid_frame hi hready hvalid
      refine ⟨_, _, _, hfault (i := .refresh) (by decide), hfault (i := .refreshWait us) (by simp [Instr.op]),
        hfault (i := .shutdown) (by decide), ?_⟩
      simp

/-- Settles O28: both outcomes of REFRESH in READY, the phases outside, and the format without a payload. -/
theorem refreshPresentsTheFrame : Obligations.RefreshPresentsTheFrame := by
  refine fun s => ⟨fun hready hvalid => ?_, exec_of_invalid_frame (i := .refresh) (by decide),
    exec_readyOp_of_not_ready (i := .refresh) (by decide), decode_none_or_rejectedIllegal (o := .refresh) rfl⟩
  rw [exec_refresh_of_valid hready hvalid, renderEvents_eq_frameEvents]
  rfl

/-- Settles O29: as for O28, with the delay after the frame and the reserved bits of F_DELAY. -/
theorem refreshWaitPresentsTheFrameAndTheDelay : Obligations.RefreshWaitPresentsTheFrameAndTheDelay := by
  refine fun s us => ⟨fun hready hvalid => ?_, exec_of_invalid_frame (i := .refreshWait us) (by simp [Instr.op]),
    exec_readyOp_of_not_ready (i := .refreshWait us) (by simp [Instr.op, readyOps]),
    fun _ => decode_or_rejectedIllegal .refreshWait reserved_delay_iff⟩
  rw [exec_refreshWait_of_valid hready hvalid, renderEvents_eq_frameEvents, State.afterCommand, ← List.append_assoc]
  rfl

/-- Settles O35: the model's slot, and its bits read off the shift byte of R209. -/
theorem slotEventsInOrder : Obligations.SlotEventsInOrder := by
  refine ⟨emitSlot_eq_slotEvents, fun p lo hi => ?_⟩
  rw [emitSlot_eq_slotEvents]
  simp [slotEvents]

end Sys2Proof.Machine
end

section
/-!
PROOFS of the family 45_flipper, the arrays: where each entry of the flipped arrays comes from (45_flipper.md R233, R234),
that the swap and the reversal are their own inverses (R237), and the flip of well-formed wiring (R238).
-/
namespace Sys2Proof.Machine

open Sys2Proof.Claims

/-! ## Entries -/

theorem vector_ext_fin {α : Type} {k : Nat} {v u : Vector α k} (h : ∀ i : Fin k, v[i] = u[i]) : v = u :=
  Vector.ext fun i hi => h ⟨i, hi⟩

section
variable (w : Wiring)

theorem flipped_hardRc_getElem (i : Fin 8) :
    w.flipped.hardRc[i] = if i.val < w.hardN.toNat then w.shiftRc[i] else w.hardRc[i] := by
  simp [Wiring.flipped]

theorem flipped_shiftRc_getElem (i : Fin 8) :
    w.flipped.shiftRc[i] = if i.val < w.hardN.toNat then w.hardRc[i] else w.shiftRc[i] := by
  simp [Wiring.flipped]

variable {w}

/-- An entry below N takes its mirror image's offset (R234). -/
theorem flipped_shiftOff_of_mirror {i j : Fin 8} (h : i.val + j.val + 1 = w.hardN.toNat) :
    w.flipped.shiftOff[i] = w.shiftOff[j] := by
  have hj : w.hardN.toNat - 1 - i.val = j.val := by omega
  have hi : i.val < w.hardN.toNat := by omega
  simp [Wiring.flipped, hj, hi]

theorem flipped_shiftOff_of_ge {i : Fin 8} (h : w.hardN.toNat ≤ i.val) : w.flipped.shiftOff[i] = w.shiftOff[i] := by
  simp [Wiring.flipped, h.not_gt]

/-! ## Two flips -/

theorem flipped_flipped_hardRc : w.flipped.flipped.hardRc = w.hardRc := by
  refine vector_ext_fin fun i => ?_
  rw [flipped_hardRc_getElem, flipped_hardRc_getElem, flipped_shiftRc_getElem, (flipped_counts w).1]
  split <;> rfl

theorem flipped_flipped_shiftRc : w.flipped.flipped.shiftRc = w.shiftRc := by
  refine vector_ext_fin fun i => ?_
  rw [flipped_shiftRc_getElem, flipped_shiftRc_getElem, flipped_hardRc_getElem, (flipped_counts w).1]
  split <;> rfl

theorem flipped_flipped_shiftOff (h : w.hardN.toNat ≤ 8) : w.flipped.flipped.shiftOff = w.shiftOff := by
  refine vector_ext_fin fun i => ?_
  by_cases hi : i.val < w.hardN.toNat
  · obtain ⟨j, hj⟩ : ∃ j : Fin 8, i.val + j.val + 1 = w.hardN.toNat :=
      ⟨⟨w.hardN.toNat - 1 - i.val, by omega⟩, by dsimp only; omega⟩
    rw [flipped_shiftOff_of_mirror (w := w.flipped) hj, flipped_shiftOff_of_mirror (j := i) (by omega)]
  · rw [flipped_shiftOff_of_ge (w := w.flipped) (not_lt.1 hi), flipped_shiftOff_of_ge (not_lt.1 hi)]

/-- With a legal count the flip is its own inverse (R237). -/
theorem flipped_flipped (h : w.hardN.toNat ≤ 8) : w.flipped.flipped = w := by
  change { w with
    hardRc := w.flipped.flipped.hardRc
    shiftRc := w.flipped.flipped.shiftRc
    shiftOff := w.flipped.flipped.shiftOff } = w
  rw [flipped_flipped_hardRc, flipped_flipped_shiftRc, flipped_flipped_shiftOff h]

/-! ## Eight entries each -/

theorem flipped_hardRc_of_full (h : w.hardN = 8) : w.flipped.hardRc = w.shiftRc :=
  vector_ext_fin fun i => by rw [flipped_hardRc_getElem, h]; exact if_pos i.isLt

theorem flipped_shiftRc_of_full (h : w.hardN = 8) : w.flipped.shiftRc = w.hardRc :=
  vector_ext_fin fun i => by rw [flipped_shiftRc_getElem, h]; exact if_pos i.isLt

/-- The two arrays swapped whole claim the same positions (R238). -/
theorem wellFormedWiring_flipped (h : wellFormedWiring w) : wellFormedWiring w.flipped := by
  obtain ⟨hhard, hshift, hperm⟩ := h
  refine ⟨hhard, hshift, ?_⟩
  rw [flipped_hardRc_of_full hhard, flipped_shiftRc_of_full hhard]
  exact (List.perm_append_comm.map _).trans hperm

theorem hardClaim_flipped (h : w.hardN = 8) {p : Pos} {i : Fin 8} (hp : p.val = w.shiftRc[i].toNat) :
    hardClaim w.flipped p i := by
  rw [hardClaim, (flipped_counts w).1, flipped_hardRc_of_full h, h]
  exact ⟨i.isLt, hp.symm⟩

theorem shiftClaim_flipped (hhard : w.hardN = 8) (hshift : w.shiftN = 8) {p : Pos} {i : Fin 8}
    (hp : p.val = w.hardRc[i].toNat) : shiftClaim w.flipped p i := by
  rw [shiftClaim, (flipped_counts w).2, flipped_shiftRc_of_full hhard, hshift]
  exact ⟨i.isLt, hp.symm⟩

end

end Sys2Proof.Machine
end

section
/-!
PROOFS of the family 45_flipper, the command and what follows it: FLIP's two endings written out (45_flipper.md R230 to R232),
and the registers that stay between two flips (`UnflippedSince`), kept by every step and so by a run (R237).
-/
namespace Sys2Proof.Machine

open Sys2Proof.Claims

/-! ## The command -/

/-- The bit a late flip sets, as the claims write it (R231). -/
theorem lateBit_eq (fresh : Bool) : lateBit fresh = if !fresh then Cause.warnLateFlip.mask else 0 := by
  cases fresh <;> rfl

/-- The registers a mutating FLIP leaves (R230). -/
def Regs.afterFlip (r : Regs) : Regs := (r.clearFresh.setStatusIf (!r.fresh) .warnLateFlip).flip

/-- A mutating FLIP writes these registers and no other. -/
theorem Regs.afterFlip_eq (r : Regs) :
    r.afterFlip =
      { r with
        wiring := r.wiring.flipped
        fresh := false
        flipped := !r.flipped
        route := buildRoutes r.wiring.flipped
        frame := (compile r.pattern (buildRoutes r.wiring.flipped)).1
        frameValid := (compile r.pattern (buildRoutes r.wiring.flipped)).2
        status := r.status ||| lateBit r.fresh ||| dupBit r.wiring.flipped ||| uncoveredBit r.wiring.flipped } := by
  rw [Regs.afterFlip, Regs.flip, Regs.rebuildRoutes_eq, Regs.recompile, Regs.setStatusIf_eq, lateBit_eq]
  rfl

section
variable {s : State} (hready : s.regs.phase = .ready)
include hready

/-- FLIP with equal counts in READY (R230). -/
theorem exec_flip_of_equal_counts (heq : s.regs.wiring.hardN = s.regs.wiring.shiftN) :
    exec .flip s = .next { s with regs := s.regs.afterFlip } :=
  (CommandOutcome.flip ((acceptedIn_iff_ready (by decide)).2 hready) heq).exec_eq_of_silent

/-- FLIP with unequal counts in READY (R232). -/
theorem exec_flip_of_unequal_counts (hne : s.regs.wiring.hardN ≠ s.regs.wiring.shiftN) :
    exec .flip s = .next { s with
      pending := s.pending ++ [.diag 1]
      regs := { s.regs with fresh := false, status := s.regs.status ||| lateBit s.regs.fresh ||| 0x08 } } := by
  rw [(CommandOutcome.flipMismatch ((acceptedIn_iff_ready (by decide)).2 hready) hne).exec_eq, Regs.setStatusIf_eq,
    lateBit_eq]
  rfl

end

/-! ## Between two flips -/

/-- The registers `r'` hold what only configuration and a mutating FLIP write as `r` does. -/
abbrev sameConfiguration (r r' : Regs) : Prop :=
  r'.flipped = r.flipped ∧ r'.spWritten = r.spWritten ∧ r'.hpWritten = r.hpWritten ∧ r'.shiftPins = r.shiftPins ∧
    r'.wiring = r.wiring

/-- What stays true of a constructed block, flipped with the registers `r`, until a reset or the next FLIP. -/
structure UnflippedSince (r r' : Regs) : Prop where
  configuration : sameConfiguration r r'
  constructed : r'.phase ≠ .unconfigured
  notFresh : r'.fresh = false
  caches : r'.phase = .ready ∨ r'.phase = .dead → cachesConsistent r'

namespace CommandOutcome

variable {i : Instr} {r r' : Regs} {es : List Event}

/-- Once constructed, only FLIP touches the configuration (40_lifecycle.md R110). -/
theorem keeps_configuration (ho : CommandOutcome i r r' es) (hp : r.phase ≠ .unconfigured) (hi : i ≠ .flip) :
    sameConfiguration r r' := by
  cases ho with
  | cfgShiftPins _ _ _ ha | cfgHardPins _ ha | cfgHardRc _ ha | cfgShiftRc _ ha | cfgShiftOff _ ha | cfgCounts _ _ ha
  | illegalCounts _ _ ha => exact absurd (phase_of_acceptedIn_config ha (by decide)) hp
  | construct _ ha => exact absurd (acceptedIn_construct.1 ha).1 hp
  | flip | flipMismatch => exact absurd rfl hi
  | turnedAway | setPixels | refresh | refreshWait | shutdown | shutdownUnresolved | renderFault =>
    exact ⟨rfl, rfl, rfl, rfl, rfl⟩

theorem keeps_constructed (ho : CommandOutcome i r r' es) (hp : r.phase ≠ .unconfigured) : r'.phase ≠ .unconfigured := by
  obtain hsame | ⟨-, -, hready⟩ | ⟨-, -, hdead⟩ | ⟨-, -, hfault, -⟩ := ho.phase_cases
  · rwa [hsame]
  · simp [hready]
  · simp [hdead]
  · simp [hfault]

/-- FRESH is set by CONSTRUCT alone, which a constructed block turns away (10_state.md R23). -/
theorem keeps_notFresh (ho : CommandOutcome i r r' es) (hp : r.phase ≠ .unconfigured) (hf : r.fresh = false) :
    r'.fresh = false := by
  obtain ⟨hi, ha, -⟩ | ⟨-, -, -, hclear⟩ | ⟨-, hsame⟩ := ho.fresh_cases
  · exact absurd (acceptedIn_construct.1 (hi ▸ ha)).1 hp
  · exact hclear
  · rw [hsame, hf]

theorem keeps_unflippedSince {r₀ : Regs} (ho : CommandOutcome i r r' es) (h : UnflippedSince r₀ r) (hi : i ≠ .flip) :
    UnflippedSince r₀ r' := by
  obtain ⟨hconf, hp, hf, hcaches⟩ := h
  obtain ⟨hflipped, hsp, hhp, hpins, hwiring⟩ := ho.keeps_configuration hp hi
  refine ⟨?_, ho.keeps_constructed hp, ho.keeps_notFresh hp hf, ho.keeps_cachesConsistent hcaches⟩
  rwa [sameConfiguration, hflipped, hsp, hhp, hpins, hwiring]

end CommandOutcome

/-- The move is neither a reset nor a word of FLIP's row. -/
abbrev flipFree (x : Input) : Prop := x ≠ .reset ∧ ∀ w, x = .command w → ¬ inRow w .flip

theorem step_keeps_unflippedSince {r₀ : Regs} {s t : State} (h : UnflippedSince r₀ s.regs) (hstep : step s = .next t)
    (hfree : ∀ x ∈ s.inputs.head?, flipFree x) : UnflippedSince r₀ t.regs := by
  have hreset : s.inputs.head? ≠ some .reset := fun hx => (hfree _ hx).1 rfl
  obtain ⟨hregs, -⟩ | ⟨w, rest, hin, -, ⟨hregs, -⟩ | ⟨i, hdec, ho⟩⟩ := step_regs_cases hstep hreset
  · rwa [hregs]
  · obtain ⟨hconf, hp, hf, hcaches⟩ := h
    rw [hregs]
    exact ⟨hconf, hp, hf, hcaches⟩
  · obtain ⟨-, hrow⟩ := hfree (.command w) (by simp [hin])
    refine ho.keeps_unflippedSince h ?_
    rintro rfl
    exact hrow w rfl ((exists_decode_eq_ok_iff_inRow .flip w).1 ⟨_, hdec, rfl⟩)

/-! ## Both ends -/

theorem unflippedSince_afterFlip {r : Regs} (hready : r.phase = .ready) (hcaches : cachesConsistent r) :
    UnflippedSince r.afterFlip r.afterFlip := by
  obtain ⟨-, hpattern, -⟩ := hcaches
  rw [Regs.afterFlip_eq]
  exact
    { configuration := ⟨rfl, rfl, rfl, rfl, rfl⟩
      constructed := by simp [hready]
      notFresh := rfl
      caches := fun _ => ⟨rfl, hpattern, Prod.mk.eta⟩ }

namespace UnflippedSince

variable {r r' : Regs} (h : UnflippedSince r.afterFlip r')
include h

theorem wiring_eq : r'.wiring = r.wiring.flipped := by
  obtain ⟨⟨-, -, -, -, hwiring⟩, -⟩ := h
  rw [hwiring, Regs.afterFlip_eq]

/-- The counts that were equal for the first flip are equal for the second. -/
theorem counts_eq (heq : r.wiring.hardN = r.wiring.shiftN) : r'.wiring.hardN = r'.wiring.shiftN := by
  rw [h.wiring_eq]
  exact heq

/-- The second flip is late (R231). -/
theorem afterFlip_warnLateFlip : r'.afterFlip.status.getLsbD 4 = true := by
  rw [Regs.afterFlip_eq]
  simp [h.notFresh, lateBit]

/-- The second flip takes back the first: the wiring by involution, the caches as functions of the wiring and PIXELS
(R237). -/
theorem afterFlip_restores (hready : r.phase = .ready) (hlegal : countsLegal r.wiring) (hcaches : cachesConsistent r)
    (hready' : r'.phase = .ready) (hpixels : r'.pixels = r.pixels) :
    r'.afterFlip = { r with fresh := false, status := r'.afterFlip.status } := by
  obtain ⟨hhard, -⟩ := hlegal
  obtain ⟨hroute, hpattern, hframe⟩ := hcaches
  obtain ⟨-, hpattern', -⟩ := h.caches (.inl hready')
  obtain ⟨hflipped, hsp, hhp, hpins, -⟩ := h.configuration
  have hwiring : r'.wiring.flipped = r.wiring := by rw [h.wiring_eq, flipped_flipped hhard]
  have hsame : r'.pattern = r.pattern := by rw [hpattern', hpixels, hpattern]
  rw [Regs.afterFlip_eq] at hflipped hsp hhp hpins
  rw [Regs.afterFlip_eq, hwiring, hsame, ← hroute, ← hframe, hready', hflipped, hsp, hhp, hpins, hpixels, ← hready,
    Bool.not_not]

end UnflippedSince

/-! ## The moves a run takes -/

/-- A step takes the first move, or it takes none and leaves the registers. -/
theorem step_takes_move_or_keeps_regs {s t : State} (hstep : step s = .next t) :
    (∃ x, s.inputs = x :: t.inputs) ∨ (t.inputs = s.inputs ∧ t.regs = s.regs) := by
  obtain ⟨rfl, -⟩ | ⟨w, rest, hin, -, hrun⟩ | ⟨a, rest, hin, -, rfl⟩ | ⟨rest, hin, rfl⟩ | ⟨rest, hin, rfl⟩ |
    ⟨rest, hin, rfl⟩ := step_cases hstep
  · exact .inr ⟨by simp, by simp⟩
  · exact .inl ⟨_, by rw [hin, (runWord_trace_inputs hrun).2]⟩
  · exact .inl ⟨_, hin⟩
  · exact .inl ⟨_, hin⟩
  · exact .inl ⟨.accept, by rw [hin, State.acceptEvent_inputs]⟩
  · exact .inl ⟨_, hin⟩

/-- A run takes its moves from the front of the list. -/
theorem run_inputs_suffix {n : Nat} {s m : State} (hrun : (Host.Core.run Sys2Proof.core n s : Result) = .next m) :
    m.inputs <:+ s.inputs := by
  induction n generalizing s with
  | zero =>
    obtain rfl : s = m := Host.Outcome.next.inj hrun
    exact List.suffix_rfl
  | succ n ih =>
    obtain ⟨t, hstep⟩ := exists_step_eq_next s
    rw [run_succ hstep] at hrun
    obtain ⟨x, hin⟩ | ⟨hin, -⟩ := step_takes_move_or_keeps_regs hstep
    · exact (ih hrun).trans (hin ▸ List.suffix_cons x t.inputs)
    · exact hin ▸ ih hrun

/-- A run that takes no reset and no FLIP keeps the configuration. -/
theorem run_keeps_unflippedSince {r₀ : Regs} {n : Nat} {s m : State} {taken : List Input}
    (hrun : (Host.Core.run Sys2Proof.core n s : Result) = .next m) (h : UnflippedSince r₀ s.regs)
    (hin : s.inputs = taken ++ m.inputs) (hfree : ∀ x ∈ taken, flipFree x) : UnflippedSince r₀ m.regs := by
  induction n generalizing s taken with
  | zero =>
    obtain rfl : s = m := Host.Outcome.next.inj hrun
    exact h
  | succ n ih =>
    obtain ⟨t, hstep⟩ := exists_step_eq_next s
    rw [run_succ hstep] at hrun
    obtain ⟨x, hx⟩ | ⟨hsame, hregs⟩ := step_takes_move_or_keeps_regs hstep
    · obtain ⟨later, hlater⟩ := run_inputs_suffix hrun
      obtain rfl : taken = x :: later := by
        refine List.append_cancel_right (bs := m.inputs) ?_
        rw [← hin, hx, ← hlater, List.cons_append]
      obtain ⟨hxfree, hlaterfree⟩ := List.forall_mem_cons.1 hfree
      exact ih hrun (step_keeps_unflippedSince h hstep (by simpa [hx] using hxfree)) hlater.symm hlaterfree
    · exact ih hrun (hregs ▸ h) (hsame ▸ hin) hfree

end Sys2Proof.Machine
end

section
/-!
PROOFS of the family 45_flipper: the obligations, each a short use of the lemmas above.
-/
namespace Sys2Proof.Machine

open Sys2Proof.Claims

/-- Settles O31: the ending of FLIP with equal counts, and its three arrays entry by entry. -/
theorem flipSwapsReversesAndRebuilds : Obligations.FlipSwapsReversesAndRebuilds := by
  intro s hready _ heq
  refine ⟨_, exec_flip_of_equal_counts hready heq, ?_⟩
  rw [Regs.afterFlip_eq]
  refine ⟨fun i hi => ⟨?_, ?_⟩, fun _ _ => flipped_shiftOff_of_mirror, fun i hi => ⟨?_, ?_, flipped_shiftOff_of_ge hi⟩, rfl⟩
  · rw [flipped_hardRc_getElem, if_pos hi]
  · rw [flipped_shiftRc_getElem, if_pos hi]
  · rw [flipped_hardRc_getElem, if_neg hi.not_gt]
  · rw [flipped_shiftRc_getElem, if_neg hi.not_gt]

/-- Settles O32: the ending of FLIP with unequal counts. -/
theorem flipMismatchIsReportedWithoutMutation : Obligations.FlipMismatchIsReportedWithoutMutation :=
  fun _ => exec_flip_of_unequal_counts

/-- Settles O33: the run between the flips keeps the flipped configuration (`run_keeps_unflippedSince`), which the second
flip takes back (`afterFlip_of_unflippedSince`). -/
theorem flipTwiceRestoresTheConfiguration : Obligations.FlipTwiceRestoresTheConfiguration := by
  intro s hready hlegal hcaches heq
  refine ⟨_, exec_flip_of_equal_counts hready heq, fun n m taken hrun hin hfree hmready hpixels => ?_⟩
  have h := run_keeps_unflippedSince hrun (unflippedSince_afterFlip hready hcaches) hin hfree
  refine ⟨_, exec_flip_of_equal_counts hmready (h.counts_eq heq),
    h.afterFlip_restores hready hlegal hcaches hmready hpixels, h.afterFlip_warnLateFlip⟩

/-- Settles O34: the flipped wiring is well formed, and each entry claims the position its partner claimed. -/
theorem routesAfterAFlip : Obligations.RoutesAfterAFlip := by
  intro w h
  obtain ⟨hhard, hshift, -⟩ := id h
  have hflipped := wellFormedWiring_flipped h
  simp only [buildRoutes_getElem]
  refine ⟨fun i p hp => routeOf_of_hardClaim hflipped (hardClaim_flipped hhard hp), fun i j p hij hp => ?_, hflipped⟩
  have hmirror : w.flipped.shiftOff[i] = w.shiftOff[j] :=
    flipped_shiftOff_of_mirror (by rw [hhard, hij]; rfl)
  rw [routeOf_of_shiftClaim hflipped (shiftClaim_flipped hhard hshift hp), hmirror]

end Sys2Proof.Machine
end

section
/-!
PROOFS of the family 60_exceptions, the acceptance checks: an idle block that takes a word of a row runs the command of that
row, and the counts of a CFG_COUNTS word are its two low nibbles (60_exceptions.md R254).
-/
namespace Sys2Proof.Machine

open Sys2Proof.Claims

section
variable {s : State} {w : CmdWord} {rest : List Input}

/-- A word in no row is no command (R250). -/
theorem exists_decode_eq_error_of_not_inRow (h : ∀ o, ¬ inRow w o) : ∃ e, decode w = .error e := by
  cases hdec : decode w with
  | error e => exact ⟨e, rfl⟩
  | ok i => exact absurd ((exists_decode_eq_ok_iff_inRow i.op w).1 ⟨i, hdec, rfl⟩) (h i.op)

/-- An idle block runs the command that a word of a row encodes. -/
theorem exists_step_eq_exec_of_inRow (hidle : s.pending = []) (hin : s.inputs = .command w :: rest) {o : Op}
    (hrow : inRow w o) : ∃ i, encode i = w ∧ i.op = o ∧ step s = exec i { s with inputs := rest } := by
  obtain ⟨i, hdec, hop⟩ := (exists_decode_eq_ok_iff_inRow o w).2 hrow
  exact ⟨i, encode_of_decode hdec, hop, by rw [step_of_command hin hidle, runWord, hdec]⟩

end

/-- The operands of a CFG_COUNTS command sit in the low nibbles of its word (30_encoding.md R81). -/
theorem encode_cfgCounts_fields (hn sn : Count) :
    (encode (.cfgCounts hn sn)).extractLsb' 0 4 = hn ∧ (encode (.cfgCounts hn sn)).extractLsb' 4 4 = sn := by
  simp only [encode, mkWord, encodePayload, BitVec.extractLsb'_append_eq_ite]
  simp

theorem exists_eq_cfgCounts_of_op {i : Instr} (h : i.op = .cfgCounts) : ∃ hn sn, i = .cfgCounts hn sn := by
  cases i <;> simp [Instr.op] at h
  exact ⟨_, _, rfl⟩

end Sys2Proof.Machine
end

section
/-!
PROOFS of the family 60_exceptions, the GPIO groups: what a PIN and a GROUP event do to every PORT bit and level, and that no
event but DIR_OUT changes a direction (60_exceptions.md R272).
-/
namespace Sys2Proof.Machine

open Sys2Proof.Claims

theorem eq_groupOf_iff {g : Group} {q : PinNum} : g = groupOf q ↔ (g = .lo ↔ q.toNat < 8) := by
  cases g <;> by_cases hq : q.toNat < 8 <;> simp [groupOf, hq]

theorem pinBit_eq_pinBit_iff {p q : PinNum} : pinBit p = pinBit q ↔ samePinBit p q := by
  rw [samePinBit_iff, pinBit, pinBit, Prod.mk.injEq, eq_comm (a := bitOf p)]

section
variable (e : Env) (p q : PinNum) (g : Group) (v : Bool) (b : Byte)

theorem setPort_port (g' : Group) : (e.setPort g b).port g' = if g = g' then b else e.port g' := by
  cases g <;> cases g' <;> rfl

theorem setPort_ddr (g' : Group) : (e.setPort g b).ddr g' = e.ddr g' := by cases g <;> cases g' <;> rfl

/-- A GROUP event writes the PORT bit of every pin of the group. -/
theorem portBit_gpio_group :
    portBit (e.gpio (.group g b)) q = if g = groupOf q then b.getLsbD (bitOf q) else portBit e q := by
  rw [portBit_eq, portBit_eq, Env.gpio, setPort_port, apply_ite (BitVec.getLsbD · (bitOf q))]

/-- A PIN event writes the PORT bit of the pins on its group bit. -/
theorem portBit_gpio_pin : portBit (e.gpio (.pin p v)) q = if samePinBit p q then v else portBit e q := by
  have hbit : bitOf p < 8 := Nat.mod_lt _ (by decide)
  rw [portBit_eq, portBit_eq, Env.gpio, setPort_port]
  by_cases hg : groupOf p = groupOf q <;> simp [samePinBit_iff, hg, hbit]

/-- No event but DIR_OUT changes a direction. -/
theorem ddrBit_gpio {ev : Event} (hev : ∀ r, ev ≠ .dirOut r) : ddrBit (e.gpio ev) q = ddrBit e q := by
  cases ev with
  | dirOut r => exact absurd rfl (hev r)
  | pin | group => rw [ddrBit_eq, ddrBit_eq, Env.gpio, setPort_ddr]
  | delay | diag => rfl

theorem level_gpio_pin :
    (e.gpio (.pin p v)).level q = if pinBit p = pinBit q then (e.level q).map fun _ => v else e.level q := by
  rw [level_eq_ite, level_eq_ite, ddrBit_gpio _ _ (by simp), portBit_gpio_pin]
  simp only [pinBit_eq_pinBit_iff]
  split_ifs <;> rfl

theorem level_gpio_group :
    (e.gpio (.group g b)).level q =
      if g = groupOf q then (e.level q).map fun _ => b.getLsbD (bitOf q) else e.level q := by
  rw [level_eq_ite, level_eq_ite, ddrBit_gpio _ _ (by simp), portBit_gpio_group]
  split_ifs <;> rfl

theorem level_gpio_pin_of_level {e : Env} {q : PinNum} {u : Bool} (h : e.level q = some u) (p : PinNum) (v : Bool) :
    (e.gpio (.pin p v)).level q = some (if pinBit p = pinBit q then v else u) := by
  rw [level_gpio_pin, h]
  split_ifs <;> rfl

theorem level_gpio_group_of_level {e : Env} {q : PinNum} {u : Bool} (h : e.level q = some u) (g : Group) (b : Byte) :
    (e.gpio (.group g b)).level q = some (if g = groupOf q then b.getLsbD (bitOf q) else u) := by
  rw [level_gpio_group, h]
  split_ifs <;> rfl

/-- The level of a pin is a matter of its group bit. -/
theorem level_congr {e : Env} {p q : PinNum} (h : pinBit p = pinBit q) : e.level p = e.level q := by
  obtain ⟨hg, hb⟩ := Prod.mk.inj h
  rw [Env.level, Env.level, hg, hb]

theorem drives_eq_ddrBit : e.drives q = ddrBit e q := by
  rw [Env.drives, level_eq_ite]
  split_ifs with h <;> simp [h]

/-! ## A whole event: the pins of the environment are those of the GPIO model -/

@[simp] theorem level_takeEvent (sp : ShiftPins) (en : Env × Nat) (ev : Event) :
    (takeEvent sp en ev).1.level q = (en.1.gpio ev).level q := by
  simp only [takeEvent, Env.shiftRegister]
  split_ifs <;> rfl

theorem drives_takeEvents (sp : ShiftPins) (en : Env × Nat) {evs : List Event}
    (hevs : ∀ ev ∈ evs, ∀ r, ev ≠ .dirOut r) : (takeEvents sp en evs).1.drives q = en.1.drives q := by
  induction evs generalizing en with
  | nil => rfl
  | cons ev evs ih =>
    rw [takeEvents_cons, ih _ fun x hx => hevs x (List.mem_cons_of_mem _ hx), Env.drives, level_takeEvent, ← Env.drives,
      drives_eq_ddrBit, ddrBit_gpio _ _ (hevs ev List.mem_cons_self), ← drives_eq_ddrBit]

end

end Sys2Proof.Machine
end

section
/-!
PROOFS of the family 60_exceptions, the shift register: one rule for an event's levels and edges over `ShiftView`, one rule
per event of a slot from it, and from these the eight bits and the latch pulse (60_exceptions.md R273).
-/
namespace Sys2Proof.Machine

open Sys2Proof.Claims

/-! ## What one event's edges do -/

section
variable (e : Env) (x : Edges) (n : Nat)

theorem shiftRegister_srBuf :
    (e.shiftRegister x n).srBuf =
      if x.clock then shiftIn e.srBuf (if x.openBit then Config.clockedBit n else x.dataBit) else e.srBuf := by
  rw [Env.shiftRegister]
  cases x.clock <;> cases x.latch <;> rfl

theorem shiftRegister_srOut :
    (e.shiftRegister x n).srOut = if x.latch then (e.shiftRegister x n).srBuf else e.srOut := by
  rw [Env.shiftRegister]
  cases x.clock <;> cases x.latch <;> rfl

end

theorem rises_eq_true_iff {before after : Option Bool} :
    rises before after = true ↔ before = some false ∧ after = some true := by
  simp [rises]

theorem rises_some (b b' : Bool) : rises (some b) (some b') = (!b && b') := by cases b <;> cases b' <;> rfl

section
variable {p : ShiftPins} {e : Env} {n : Nat} {ev : Event}

/-- A clock edge with a data level that changes shifts a free bit in (93_implementation_defined.md U10). -/
theorem takeEvent_of_open_clock (hclock : rises (e.level p.sclk) ((e.gpio ev).level p.sclk) = true)
    (hlatch : rises (e.level p.latch) ((e.gpio ev).level p.latch) = false)
    (hdata : (e.gpio ev).level p.data ≠ e.level p.data) :
    takeEvent p (e, n) ev = ({ e.gpio ev with srBuf := shiftIn e.srBuf (Config.clockedBit n) }, n + 1) := by
  simp [takeEvent, edgesOf, Env.shiftRegister, drawsAfter, dataOpen, hclock, hlatch, hdata.symm]

/-- An event that raises the clock and changes the data level, and does not raise the latch (R300, U10). -/
theorem shiftsInFreeBit_of_open_clock (hlow : e.level p.sclk = some false)
    (hhigh : (e.gpio ev).level p.sclk = some true) (hdata : (e.gpio ev).level p.data ≠ e.level p.data)
    (hlatch : ¬ (e.level p.latch = some false ∧ (e.gpio ev).level p.latch = some true)) :
    shiftsInFreeBit p e n ev := by
  have hlatch' := Bool.eq_false_iff.2 (mt rises_eq_true_iff.1 hlatch)
  obtain ⟨-, hout⟩ := gpio_shiftRegister e ev
  rw [shiftsInFreeBit, takeEvent_of_open_clock (rises_eq_true_iff.2 ⟨hlow, hhigh⟩) hlatch' hdata]
  refine ⟨?_, fun k hk => ?_, hout, rfl⟩
  · rw [shiftIn_getLsbD, if_pos rfl]
  · rw [shiftIn_getLsbD, if_neg hk.ne]

end

/-! ## The control lines and the shift register through a slot -/

/-- The three control pins are outputs at these levels, the shift register holds `buf` and `out`, and `n` free bits were
taken. -/
structure ShiftView (p : ShiftPins) (data clock latch : Bool) (buf out : Byte) (n : Nat) (en : Env × Nat) : Prop where
  data : en.1.level p.data = some data
  clock : en.1.level p.sclk = some clock
  latch : en.1.level p.latch = some latch
  srBuf : en.1.srBuf = buf
  srOut : en.1.srOut = out
  draws : en.2 = n

/-- Control pins on distinct group bits, pair by pair. -/
theorem controls_nodup_iff {p : ShiftPins} :
    ([p.data, p.sclk, p.latch].map pinBit).Nodup ↔
      pinBit p.data ≠ pinBit p.sclk ∧ pinBit p.data ≠ pinBit p.latch ∧ pinBit p.sclk ≠ pinBit p.latch := by
  simp [and_assoc]

namespace ShiftView

variable {p : ShiftPins} {d c l : Bool} {buf out : Byte} {n : Nat} {en : Env × Nat}

/-- One event, from the levels it leaves: a clock edge shifts the data level in, then a latch edge copies the buffer. The data
level must stay over a clock edge, or the bit is free. -/
theorem event (h : ShiftView p d c l buf out n en) {ev : Event} {d' c' l' : Bool}
    (hdata : (en.1.gpio ev).level p.data = some d') (hclock : (en.1.gpio ev).level p.sclk = some c')
    (hlatch : (en.1.gpio ev).level p.latch = some l') (hstays : (!c && c') = true → d' = d) :
    ShiftView p d' c' l' (if !c && c' then shiftIn buf d else buf)
      (if !l && l' then (if !c && c' then shiftIn buf d else buf) else out) n (takeEvent p en ev) := by
  obtain ⟨hd, hc, hl, rfl, rfl, rfl⟩ := h
  obtain ⟨hbuf, hout⟩ := gpio_shiftRegister en.1 ev
  have hedges : edgesOf p en.1 (en.1.gpio ev) =
      { clock := !c && c', latch := !l && l', openBit := d != d', dataBit := d' } := by
    rw [edgesOf, hd, hc, hl, hdata, hclock, hlatch, rises_some, rises_some]
    cases d <;> cases d' <;> rfl
  have hclosed : (!c && c') = true → (d != d') = false := fun hrise => by simp [hstays hrise]
  have hbuf' : (takeEvent p en ev).1.srBuf = if !c && c' then shiftIn en.1.srBuf d else en.1.srBuf := by
    rw [takeEvent, hedges, shiftRegister_srBuf, hbuf]
    split_ifs with hrise hopen
    · simp [hclosed hrise] at hopen
    · rw [hstays hrise]
    · rfl
  refine ⟨by rw [level_takeEvent, hdata], by rw [level_takeEvent, hclock], by rw [level_takeEvent, hlatch], hbuf', ?_, ?_⟩
  · rw [← hbuf', ← hout, takeEvent, hedges, shiftRegister_srOut]
  · rw [takeEvent, hedges, drawsAfter, if_neg]
    simpa using hclosed

/-- A PIN event, from the levels it leaves on the control lines. -/
theorem pin (h : ShiftView p d c l buf out n en) {r : PinNum} {v d' c' l' : Bool}
    (hdata : (if pinBit r = pinBit p.data then v else d) = d')
    (hclock : (if pinBit r = pinBit p.sclk then v else c) = c')
    (hlatch : (if pinBit r = pinBit p.latch then v else l) = l') (hstays : (!c && c') = true → d' = d) :
    ShiftView p d' c' l' (if !c && c' then shiftIn buf d else buf)
      (if !l && l' then (if !c && c' then shiftIn buf d else buf) else out) n (takeEvent p en (.pin r v)) := by
  subst hdata hclock hlatch
  exact h.event (level_gpio_pin_of_level h.data r v) (level_gpio_pin_of_level h.clock r v)
    (level_gpio_pin_of_level h.latch r v) hstays

/-- A GROUP event that keeps clock and latch low gives no edge. -/
theorem group (h : ShiftView p d false false buf out n en) {g : Group} {b : Byte}
    (hclock : g = groupOf p.sclk → b.getLsbD (bitOf p.sclk) = false)
    (hlatch : g = groupOf p.latch → b.getLsbD (bitOf p.latch) = false) :
    ShiftView p (if g = groupOf p.data then b.getLsbD (bitOf p.data) else d) false false buf out n
      (takeEvent p en (.group g b)) := by
  have hc := level_gpio_group_of_level h.clock g b
  have hl := level_gpio_group_of_level h.latch g b
  rw [ite_eq_right_iff.2 hclock] at hc
  rw [ite_eq_right_iff.2 hlatch] at hl
  exact h.event (level_gpio_group_of_level h.data g b) hc hl (by simp)

section
variable (hdistinct : ([p.data, p.sclk, p.latch].map pinBit).Nodup)
include hdistinct

/-- The data line is driven to `v` (44_serializer.md R202). -/
theorem setData (h : ShiftView p d c l buf out n en) (v : Bool) :
    ShiftView p v c l buf out n (takeEvent p en (.pin p.data v)) := by
  obtain ⟨hds, hdl, -⟩ := controls_nodup_iff.1 hdistinct
  simpa using h.pin (v := v) (if_pos rfl) (if_neg hds) (if_neg hdl) (by simp)

/-- The clock line is driven to `v`; when it rises, the data level is shifted in (R202, R273). -/
theorem setClock (h : ShiftView p d c l buf out n en) (v : Bool) :
    ShiftView p d v l (if !c && v then shiftIn buf d else buf) out n (takeEvent p en (.pin p.sclk v)) := by
  obtain ⟨hds, -, hsl⟩ := controls_nodup_iff.1 hdistinct
  simpa using h.pin (v := v) (if_neg hds.symm) (if_pos rfl) (if_neg hsl) fun _ => rfl

/-- The latch line is driven to `v`; when it rises, the outputs take the buffer (44_serializer.md R203, R273). -/
theorem setLatch (h : ShiftView p d c l buf out n en) (v : Bool) :
    ShiftView p d c v buf (if !l && v then buf else out) n (takeEvent p en (.pin p.latch v)) := by
  obtain ⟨-, hdl, hsl⟩ := controls_nodup_iff.1 hdistinct
  simpa using h.pin (v := v) (if_neg hdl.symm) (if_neg hsl.symm) (if_pos rfl) fun _ => rfl

/-- One bit of the shift byte: its data level, then one clock pulse (R202). -/
theorem bit (h : ShiftView p d false l buf out n en) (v : Bool) :
    ShiftView p v false l (shiftIn buf v) out n (takeEvents p en (emitBit p v)) :=
  ((h.setData hdistinct v).setClock hdistinct true).setClock hdistinct false

/-- Bits shifted in one after another. -/
theorem bits (h : ShiftView p d false l buf out n en) (f : Nat → Bool) (ks : List Nat) :
    ∃ d', ShiftView p d' false l (ks.foldl (fun b k => shiftIn b (f k)) buf) out n
      (takeEvents p en (ks.flatMap fun k => emitBit p (f k))) := by
  induction ks generalizing d buf en with
  | nil => exact ⟨d, h⟩
  | cons k ks ih =>
    rw [List.flatMap_cons, takeEvents_append]
    exact ih (h.bit hdistinct (f k))

/-- One latch pulse copies the buffer to the outputs (R203). -/
theorem latchPulse (h : ShiftView p d c false buf out n en) :
    ShiftView p d c false buf buf n (takeEvents p en [.pin p.latch true, .pin p.latch false]) :=
  (h.setLatch hdistinct true).setLatch hdistinct false

end

end ShiftView

/-- After `m` bits, the last one is at bit 7, the first ones below it, and what is left of the buffer below these (R273). -/
theorem foldl_shiftIn_getLsbD (f : Nat → Bool) (buf : Byte) {m k : Nat} (hm : m ≤ 8) (hk : k < 8) :
    ((List.range m).foldl (fun b k => shiftIn b (f k)) buf).getLsbD k =
      if k + m < 8 then buf.getLsbD (k + m) else f (k + m - 8) := by
  induction m generalizing k with
  | zero => simp [hk]
  | succ m ih =>
    rw [List.range_succ, List.foldl_append, List.foldl_cons, List.foldl_nil, shiftIn_getLsbD]
    by_cases h7 : k = 7
    · subst h7
      rw [if_pos rfl, if_neg (by omega)]
      congr 1
      omega
    · rw [if_neg h7, ih (by omega) (by omega), Nat.add_right_comm k 1 m, Nat.add_assoc k m 1]

/-- Eight bits, least significant first, replace the whole buffer by the byte (44_serializer.md R201). -/
theorem foldl_shiftIn_eq (b buf : Byte) : (List.range 8).foldl (fun acc k => shiftIn acc (b.getLsbD k)) buf = b := by
  refine BitVec.eq_of_getLsbD_eq fun k hk => ?_
  rw [foldl_shiftIn_getLsbD _ _ le_rfl hk, if_neg (by omega), Nat.add_sub_cancel]

/-- The events of a slot before its two groups: the eight bits and the latch pulse (R201 to R203). -/
def shiftEvents (p : ShiftPins) (sh : Byte) : List Event :=
  ((List.range 8).flatMap fun b => emitBit p (sh.getLsbD b)) ++ [.pin p.latch true, .pin p.latch false]

theorem emitSlot_eq_shiftEvents_append (p : ShiftPins) (sl : Slot) :
    emitSlot p sl = shiftEvents p sl.sh ++ [.group .lo sl.lo, .group .hi sl.hi] := rfl

theorem emitSlot_take_eq_shiftEvents (p : ShiftPins) (sl : Slot) : (emitSlot p sl).take 26 = shiftEvents p sl.sh := rfl

/-- The eight bits and the latch pulse put the byte into the buffer and on the outputs (R273). -/
theorem ShiftView.shiftEvents {p : ShiftPins} {d : Bool} {buf out : Byte} {n : Nat} {en : Env × Nat}
    (h : ShiftView p d false false buf out n en) (hdistinct : ([p.data, p.sclk, p.latch].map pinBit).Nodup) (sh : Byte) :
    ∃ d', ShiftView p d' false false sh sh n (takeEvents p en (Machine.shiftEvents p sh)) := by
  obtain ⟨d', hbits⟩ := h.bits hdistinct sh.getLsbD (List.range 8)
  rw [foldl_shiftIn_eq] at hbits
  rw [Machine.shiftEvents, takeEvents_append]
  exact ⟨d', hbits.latchPulse hdistinct⟩

/-- Driven control lines with clock and latch low are a view of the shift register as it is. -/
theorem exists_shiftView_of_low {p : ShiftPins} {e : Env} (hdata : e.drives p.data = true)
    (hclock : e.level p.sclk = some false) (hlatch : e.level p.latch = some false) (n : Nat) :
    ∃ d, ShiftView p d false false e.srBuf e.srOut n (e, n) := by
  obtain ⟨d, hd⟩ := Option.isSome_iff_exists.1 hdata
  exact ⟨d, hd, hclock, hlatch, rfl, rfl, rfl⟩

end Sys2Proof.Machine
end

section
/-!
PROOFS of the family 60_exceptions, a slot on the pins: after its two GROUP events every output shows the slot's bit
(`level_takeEvents_emitSlot`), and the shift register holds the slot's shift byte (60_exceptions.md R272, R273).
-/
namespace Sys2Proof.Machine

open Sys2Proof.Claims

/-! ## The bit of a slot that a pin shows -/

/-- The byte a slot writes to a group (44_serializer.md R204). -/
def Slot.byte (sl : Slot) : Group → Byte
  | .lo => sl.lo
  | .hi => sl.hi

/-- The bit a slot writes to a pin's group bit. -/
def Slot.pinLevel (sl : Slot) (q : PinNum) : Bool := (sl.byte (groupOf q)).getLsbD (bitOf q)

theorem byte_getLsbD_of_eq {sl : Slot} {g : Group} {q : PinNum} (h : g = groupOf q) :
    (sl.byte g).getLsbD (bitOf q) = sl.pinLevel q := by
  rw [h, Slot.pinLevel]

/-- A slot has no DIR_OUT event (44_serializer.md R200). -/
theorem ne_dirOut_of_mem_emitSlot {p : ShiftPins} {sl : Slot} : ∀ ev ∈ emitSlot p sl, ∀ r, ev ≠ .dirOut r := by
  rintro ev hev r rfl
  simp [emitSlot, emitBit] at hev

/-- After a slot every output shows the slot's bit, whatever the wiring is. -/
theorem level_takeEvents_emitSlot (p : ShiftPins) (sl : Slot) {e : Env} {q : PinNum} (hq : e.drives q = true) (n : Nat) :
    (takeEvents p (e, n) (emitSlot p sl)).1.level q = some (sl.pinLevel q) := by
  have hdrives : (takeEvents p (e, n) (shiftEvents p sl.sh)).1.drives q = true := by
    rw [← emitSlot_take_eq_shiftEvents,
      drives_takeEvents q p _ fun ev hev => ne_dirOut_of_mem_emitSlot ev (List.mem_of_mem_take hev), hq]
  obtain ⟨u, hu⟩ := Option.isSome_iff_exists.1 hdrives
  rw [emitSlot_eq_shiftEvents_append, takeEvents_append]
  simp only [takeEvents_cons, takeEvents_nil, level_takeEvent, level_gpio_group, hu]
  cases hg : groupOf q <;> simp [Slot.pinLevel, Slot.byte, hg]

/-- The two groups of a slot that keeps clock and latch low: no edge. -/
theorem ShiftView.groups {p : ShiftPins} {d : Bool} {buf out : Byte} {n : Nat} {en : Env × Nat} {sl : Slot}
    (h : ShiftView p d false false buf out n en) (hclock : sl.pinLevel p.sclk = false)
    (hlatch : sl.pinLevel p.latch = false) :
    ∃ d', ShiftView p d' false false buf out n (takeEvents p en [.group .lo sl.lo, .group .hi sl.hi]) := by
  have hlow {q : PinNum} (hq : sl.pinLevel q = false) (g : Group) (hg : g = groupOf q) :
      (sl.byte g).getLsbD (bitOf q) = false := by rw [byte_getLsbD_of_eq hg, hq]
  exact ⟨_, (h.group (hlow hclock .lo) (hlow hlatch .lo)).group (hlow hclock .hi) (hlow hlatch .hi)⟩

/-- A slot that keeps clock and latch low leaves its shift byte on the shift register's outputs. -/
theorem ShiftView.slot {p : ShiftPins} {d : Bool} {buf out : Byte} {n : Nat} {en : Env × Nat} {sl : Slot}
    (h : ShiftView p d false false buf out n en) (hdistinct : ([p.data, p.sclk, p.latch].map pinBit).Nodup)
    (hclock : sl.pinLevel p.sclk = false) (hlatch : sl.pinLevel p.latch = false) :
    ∃ d', ShiftView p d' false false sl.sh sl.sh n (takeEvents p en (emitSlot p sl)) := by
  obtain ⟨d', h'⟩ := h.shiftEvents hdistinct sl.sh
  rw [emitSlot_eq_shiftEvents_append, takeEvents_append]
  exact h'.groups hclock hlatch

end Sys2Proof.Machine
end

section
/-!
PROOFS of the family 60_exceptions, collision-free wiring: each position alone drives the bit its route leads to, so that bit
of a compiled slot is the position's pattern bit, and no position drives a control pin (60_exceptions.md R274).
-/
namespace Sys2Proof.Machine

open Sys2Proof.Claims

/-! ## Which positions drive a bit -/

/-- The route leads to the group bit of pin q (43_output_compiler.md R183). -/
def Route.drivesPin (q : PinNum) : Route → Bool
  | .direct r => decide (pinBit r = pinBit q)
  | _ => false

theorem drivesPin_iff {rt : Route} {q : PinNum} :
    rt.drivesPin q = true ↔ ∃ r, rt = .direct r ∧ pinBit r = pinBit q := by
  cases rt <;> simp [Route.drivesPin]

theorem drivesSh_iff {rt : Route} {b : Nat} : rt.drivesSh b = true ↔ ∃ o, rt = .shifted o ∧ o.toNat = b := by
  cases rt <;> simp [Route.drivesSh]

theorem zero_pinLevel (q : PinNum) : Slot.zero.pinLevel q = false := by
  cases hq : groupOf q <;> simp [Slot.pinLevel, Slot.byte, Slot.zero, hq]

theorem addRouted_pinLevel (acc : Slot) (rt : Route) (v : Bool) (q : PinNum) :
    (acc.addRouted rt v).pinLevel q = (acc.pinLevel q ^^ (v && rt.drivesPin q)) := by
  cases rt with
  | unresolved | shifted => cases hq : groupOf q <;> simp [Slot.addRouted, Route.drivesPin, Slot.pinLevel, Slot.byte, hq]
  | direct r =>
    have hbit : bitOf r < 8 := Nat.mod_lt _ (by decide)
    cases hr : groupOf r <;> cases hq : groupOf q <;>
      simp [Slot.addRouted, Route.drivesPin, Slot.pinLevel, Slot.byte, pinBit, hr, hq, hbit, eq_comm (a := bitOf q)]

/-- A parity over positions of which only one can be 1 is that one's bit (43_output_compiler.md R189). -/
theorem xorOver_eq_of_unique {f : Pos → Bool} {p : Pos} (h : ∀ q, f q = true → q = p) : xorOver f = f p := by
  have hcount : (List.finRange 16).countP f = (f p).toNat := by
    cases hp : f p with
    | false =>
      refine List.countP_eq_zero.2 fun q _ hq => ?_
      rw [h q hq, hp] at hq
      exact nomatch hq
    | true =>
      have hf (q : Pos) : f q = true ↔ (q == p) = true := by
        rw [beq_iff_eq]
        exact ⟨h q, by rintro rfl; exact hp⟩
      rw [List.countP_congr fun q _ => hf q]
      exact List.count_eq_one_of_mem (List.nodup_finRange 16) (List.mem_finRange p)
  rw [xorOver, hcount]
  cases f p <;> rfl

/-- The bit that a position's route alone leads to is the position's pattern bit. -/
theorem compileSlot_bit_of_unique {bit : Slot → Bool} {drives : Route → Bool} (hzero : bit Slot.zero = false)
    (hadd : ∀ acc rt v, bit (acc.addRouted rt v) = (bit acc ^^ (v && drives rt))) {route : Vector Route 16} {q : Pos}
    (hq : drives route[q] = true) (hunique : ∀ q' : Pos, drives route[q'] = true → q' = q) (pat : RowColBits) :
    bit (compileSlot route pat) = pat.getLsbD q.val := by
  rw [compileSlot_bit hzero hadd, xorOver_eq_of_unique (p := q), hq, Bool.and_true]
  exact fun q' hq' => hunique q' (Bool.and_eq_true_iff.1 hq').2

/-- A bit that no route leads to is 0. -/
theorem compileSlot_bit_of_none {bit : Slot → Bool} {drives : Route → Bool} (hzero : bit Slot.zero = false)
    (hadd : ∀ acc rt v, bit (acc.addRouted rt v) = (bit acc ^^ (v && drives rt))) {route : Vector Route 16}
    (hnone : ∀ q : Pos, drives route[q] = false) (pat : RowColBits) : bit (compileSlot route pat) = false := by
  rw [compileSlot_bit hzero hadd, xorOver_eq_of_unique (p := 0), hnone, Bool.and_false]
  exact fun q hq => absurd (Bool.and_eq_true_iff.1 hq).2 (Bool.eq_false_iff.1 (hnone q))

/-! ## Collision-free wiring -/

/-- Entries of a vector without repetition, under a map without repetition. -/
theorem eq_of_nodup_map {α β : Type} {k : Nat} {v : Vector α k} {f : α → β} (h : (v.toList.map f).Nodup) {i j : Fin k}
    (hij : f v[i] = f v[j]) : i = j :=
  Fin.ext ((h.getElem_inj_iff (hi := by simp) (hj := by simp)).1 (by simpa using hij))

/-- With well-formed wiring a position is claimed by a hardwired entry or by a shift entry (41_pin_router.md R148). -/
theorem routeOf_cases {w : Wiring} (h : wellFormedWiring w) (q : Pos) :
    (∃ i, hardClaim w q i ∧ routeOf w q = .direct w.hardPins[i]) ∨
      ∃ j, shiftClaim w q j ∧ routeOf w q = .shifted w.shiftOff[j] := by
  have hclaimed := not_claimedByNone_of_wellFormed h q
  rw [claimedByNone, not_and_or] at hclaimed
  push Not at hclaimed
  obtain ⟨i, hi⟩ | ⟨j, hj⟩ := hclaimed
  · exact .inl ⟨i, hi, routeOf_of_hardClaim h hi⟩
  · exact .inr ⟨j, hj, routeOf_of_shiftClaim h hj⟩

theorem exists_hardClaim_of_routeOf {w : Wiring} (h : wellFormedWiring w) {q : Pos} {r : PinNum}
    (hq : routeOf w q = .direct r) : ∃ i, hardClaim w q i ∧ w.hardPins[i] = r := by
  obtain ⟨i, hi, hr⟩ | ⟨j, -, hr⟩ := routeOf_cases h q
  · exact ⟨i, hi, Route.direct.inj (hr.symm.trans hq)⟩
  · exact nomatch hr.symm.trans hq

theorem exists_shiftClaim_of_routeOf {w : Wiring} (h : wellFormedWiring w) {q : Pos} {o : Offset}
    (hq : routeOf w q = .shifted o) : ∃ j, shiftClaim w q j ∧ w.shiftOff[j] = o := by
  obtain ⟨i, -, hr⟩ | ⟨j, hj, hr⟩ := routeOf_cases h q
  · exact nomatch hr.symm.trans hq
  · exact ⟨j, hj, Route.shifted.inj (hr.symm.trans hq)⟩

section
variable {p : ShiftPins} {w : Wiring} (h : collisionFree p w)
include h

theorem controls_nodup_of_collisionFree : ([p.data, p.sclk, p.latch].map pinBit).Nodup := by
  obtain ⟨-, hpins, -⟩ := h
  rw [List.map_append] at hpins
  exact hpins.of_append_left

/-- Two direct routes to one group bit are of one position. -/
theorem eq_of_routeOf_direct {q q' : Pos} {r r' : PinNum} (hq : routeOf w q = .direct r)
    (hq' : routeOf w q' = .direct r') (hbit : pinBit r' = pinBit r) : q' = q := by
  obtain ⟨hwell, hpins, -⟩ := h
  rw [List.map_append] at hpins
  obtain ⟨i, ⟨-, hi⟩, rfl⟩ := exists_hardClaim_of_routeOf hwell hq
  obtain ⟨i', ⟨-, hi'⟩, rfl⟩ := exists_hardClaim_of_routeOf hwell hq'
  obtain rfl := eq_of_nodup_map hpins.of_append_right hbit
  exact Fin.ext (hi'.symm.trans hi)

/-- Two shifted routes to one offset are of one position. -/
theorem eq_of_routeOf_shifted {q q' : Pos} {o : Offset} (hq : routeOf w q = .shifted o)
    (hq' : routeOf w q' = .shifted o) : q' = q := by
  obtain ⟨hwell, -, hoff⟩ := h
  rw [← List.map_id w.shiftOff.toList] at hoff
  obtain ⟨j, ⟨-, hj⟩, rfl⟩ := exists_shiftClaim_of_routeOf hwell hq
  obtain ⟨j', ⟨-, hj'⟩, ho⟩ := exists_shiftClaim_of_routeOf hwell hq'
  obtain rfl := eq_of_nodup_map hoff ho
  exact Fin.ext (hj'.symm.trans hj)

/-- A direct route leads to no control pin's group bit. -/
theorem pinBit_ne_of_routeOf_direct {q : Pos} {r c : PinNum} (hq : routeOf w q = .direct r)
    (hc : c ∈ [p.data, p.sclk, p.latch]) : pinBit r ≠ pinBit c := by
  obtain ⟨hwell, hpins, -⟩ := h
  rw [List.map_append, List.nodup_append] at hpins
  obtain ⟨-, -, hdisjoint⟩ := hpins
  obtain ⟨i, -, rfl⟩ := exists_hardClaim_of_routeOf hwell hq
  exact (hdisjoint _ (List.mem_map_of_mem hc) _ (List.mem_map_of_mem (by simp))).symm

/-- A DIRECT position's pin shows the position's pattern bit. -/
theorem compileSlot_pinLevel_of_direct {q : Pos} {r : PinNum} (hq : routeOf w q = .direct r) (pat : RowColBits) :
    (compileSlot (buildRoutes w) pat).pinLevel r = pat.getLsbD q.val := by
  refine compileSlot_bit_of_unique (bit := (·.pinLevel r)) (zero_pinLevel r) (addRouted_pinLevel · · · r) ?_
    (fun q' hq' => ?_) pat
  · rw [buildRoutes_getElem, hq, Route.drivesPin, decide_eq_true rfl]
  · rw [buildRoutes_getElem, drivesPin_iff] at hq'
    obtain ⟨r', hr', hbit⟩ := hq'
    exact eq_of_routeOf_direct h hq hr' hbit

/-- A SHIFTED position's offset holds the position's pattern bit. -/
theorem compileSlot_sh_of_shifted {q : Pos} {o : Offset} (hq : routeOf w q = .shifted o) (pat : RowColBits) :
    (compileSlot (buildRoutes w) pat).sh.getLsbD o.toNat = pat.getLsbD q.val := by
  refine compileSlot_bit_of_unique (bit := (·.sh.getLsbD o.toNat)) BitVec.getLsbD_zero
    (addRouted_sh_getLsbD · · · o.toNat) ?_ (fun q' hq' => ?_) pat
  · rw [buildRoutes_getElem, hq, Route.drivesSh, decide_eq_true rfl]
  · rw [buildRoutes_getElem, drivesSh_iff] at hq'
    obtain ⟨o', ho', hbit⟩ := hq'
    obtain rfl := BitVec.eq_of_toNat_eq hbit
    exact eq_of_routeOf_shifted h hq ho'

/-- No slot sets the group bit of a control pin. -/
theorem compileSlot_pinLevel_of_control {r : PinNum} (hr : r ∈ [p.data, p.sclk, p.latch]) (pat : RowColBits) :
    (compileSlot (buildRoutes w) pat).pinLevel r = false := by
  refine compileSlot_bit_of_none (bit := (·.pinLevel r)) (zero_pinLevel r) (addRouted_pinLevel · · · r) (fun q => ?_) pat
  rw [buildRoutes_getElem, Bool.eq_false_iff, ne_eq, drivesPin_iff]
  rintro ⟨r', hr', hbit⟩
  exact pinBit_ne_of_routeOf_direct h hr' hr hbit

end

end Sys2Proof.Machine
end

section
/-!
PROOFS of the family 60_exceptions, what a slot shows: the lines and LEDs after a slot of collision-free wiring, and which LEDs
the scan slots of a bitmap light (60_exceptions.md R274).
-/
namespace Sys2Proof.Machine

open Sys2Proof.Claims

/-! ## The lines after a slot -/

section
variable {p : ShiftPins} {w : Wiring} {e : Env} (h : collisionFree p w) (hstart : slotStart p w e) (n : Nat)
  (pat : RowColBits)
include h hstart

/-- The premises of a slot hold after it, and its shift byte is on the shift register's outputs. -/
theorem slotStart_takeEvents_emitSlot :
    slotStart p w (takeEvents p (e, n) (emitSlot p (compileSlot (buildRoutes w) pat))).1 ∧
      (takeEvents p (e, n) (emitSlot p (compileSlot (buildRoutes w) pat))).1.srOut =
        (compileSlot (buildRoutes w) pat).sh := by
  obtain ⟨hdrives, hclock, hlatch⟩ := hstart
  obtain ⟨d, hview⟩ := exists_shiftView_of_low (hdrives p.data (by simp)) hclock hlatch n
  obtain ⟨d', hview'⟩ := hview.slot (controls_nodup_of_collisionFree h)
    (compileSlot_pinLevel_of_control h (by simp) pat) (compileSlot_pinLevel_of_control h (by simp) pat)
  refine ⟨⟨fun q hq => ?_, hview'.clock, hview'.latch⟩, hview'.srOut⟩
  rw [drives_takeEvents q p _ ne_dirOut_of_mem_emitSlot]
  exact hdrives q hq

/-- After a slot every logical line shows its pattern bit. -/
theorem lineLevel_takeEvents_emitSlot (q : Pos) :
    (takeEvents p (e, n) (emitSlot p (compileSlot (buildRoutes w) pat))).1.lineLevel (buildRoutes w)[q] =
      some (pat.getLsbD q.val) := by
  obtain ⟨-, hout⟩ := slotStart_takeEvents_emitSlot h hstart n pat
  rw [buildRoutes_getElem, lineLevel_eq]
  obtain ⟨i, -, hq⟩ | ⟨j, -, hq⟩ := routeOf_cases h.1 q
  · have hdrives := hstart.1 w.hardPins[i] (by simp)
    rw [hq, ← compileSlot_pinLevel_of_direct h hq]
    exact level_takeEvents_emitSlot p _ hdrives n
  · rw [hq, ← compileSlot_sh_of_shifted h hq, ← hout]

end

/-- Lines that show a pattern light exactly the LEDs the pattern lights. -/
theorem ledLit_eq_litBy {e : Env} {route : Vector Route 16} {pat : RowColBits}
    (h : ∀ q : Pos, e.lineLevel route[q] = some (pat.getLsbD q.val)) (r c : Fin 8) :
    e.ledLit route r c = litBy pat r c := by
  have hrow : e.lineLevel route[8 + r.val] = some (pat.getLsbD (8 + r.val)) := h ⟨8 + r.val, by omega⟩
  have hcol : e.lineLevel route[c.val] = some (pat.getLsbD c.val) := h ⟨c.val, by omega⟩
  rw [Env.ledLit, hrow, hcol, litBy]
  cases pat.getLsbD (8 + r.val) <;> cases pat.getLsbD c.val <;> rfl

/-! ## Which LEDs the slots of a bitmap light -/

/-- The LEDs of a source row's pattern are the set pixels of that row (42_pattern_generator.md R166). -/
theorem litBy_rowPattern (k : Nat) (row : Byte) (r c : Fin 8) :
    litBy (rowPattern k row) r c = true ↔ r.val = k ∧ row.getLsbD c.val = true := by
  have hset : row.getLsbD c.val = true → row ≠ 0 := by
    rintro hc rfl
    simp at hc
  rw [litBy, rowPattern_getLsbD_row k row r.isLt, rowPattern_getLsbD_column k row c.isLt]
  simp only [Bool.not_not, Bool.and_eq_true, decide_eq_true_eq, and_assoc]
  exact ⟨fun ⟨hr, _, hc⟩ => ⟨hr, hc⟩, fun ⟨hr, hc⟩ => ⟨hr, hset hc, hc⟩⟩

theorem litBy_blank (r c : Fin 8) : litBy Config.blank r c = false := by
  rw [litBy, blank_getLsbD_row r.isLt]
  rfl

/-- An even scan slot shows the source row that R161 gives it. -/
theorem scanPattern_generate_of_even {s : Fin 16} (hs : s.val % 2 = 0) (pixels : Vector Byte 8) {k : Fin 8}
    (hk : k.val + s.val / 2 = 7) : scanPattern (generate pixels) s = rowPattern k.val pixels[k] := by
  rw [scanPattern, if_pos hs]
  exact generate_getElem pixels (k := ⟨s.val / 2, by omega⟩) hk

theorem litBy_scanPattern_generate (pixels : Vector Byte 8) (s : Fin 16) (r c : Fin 8) :
    litBy (scanPattern (generate pixels) s) r c = true ↔
      s.val % 2 = 0 ∧ r.val + s.val / 2 = 7 ∧ pixels[r].getLsbD c.val = true := by
  obtain hs | hs := Nat.mod_two_eq_zero_or_one s.val
  · obtain ⟨k, hk⟩ : ∃ k : Fin 8, k.val + s.val / 2 = 7 := ⟨⟨7 - s.val / 2, by omega⟩, by simp only; omega⟩
    rw [scanPattern_generate_of_even hs pixels hk, litBy_rowPattern]
    constructor
    · rintro ⟨hr, hc⟩
      obtain rfl := Fin.ext hr
      exact ⟨hs, hk, hc⟩
    · rintro ⟨-, hr, hc⟩
      obtain rfl : r = k := Fin.ext (by omega)
      exact ⟨rfl, hc⟩
  · rw [scanPattern_of_odd hs, litBy_blank]
    simp [hs]

end Sys2Proof.Machine
end

section
/-!
PROOFS of the family 60_exceptions: the obligations, each a short use of the lemmas above.
-/
namespace Sys2Proof.Machine

open Sys2Proof.Claims

/-- Settles O47: a word in no row does not decode; a word of a row runs its command, which its phase turns away, or whose
counts are above 8, or neither. -/
theorem firstFailingCheckIsReported : Obligations.FirstFailingCheckIsReported := by
  intro s w rest hidle hin
  refine ⟨fun hnone => ?illegal, fun o hrow hnot => ?phase, fun hrow hacc hcount => ?value,
    fun o hrow _ => exists_step_eq_exec_of_inRow hidle hin hrow⟩
  case illegal =>
    obtain ⟨err, hdec⟩ := exists_decode_eq_error_of_not_inRow hnone
    exact rejectedIllegal_of_decode_error hdec s rest hidle hin
  case phase =>
    obtain ⟨i, -, rfl, hstep⟩ := exists_step_eq_exec_of_inRow hidle hin hrow
    rw [hstep]
    exact exec_of_not_acceptedIn hnot
  case value =>
    obtain ⟨i, rfl, hop, hstep⟩ := exists_step_eq_exec_of_inRow hidle hin hrow
    obtain ⟨hn, sn, rfl⟩ := exists_eq_cfgCounts_of_op hop
    obtain ⟨hhn, hsn⟩ := encode_cfgCounts_fields hn sn
    rw [hhn, hsn] at hcount
    rw [hstep]
    exact CommandOutcome.exec_eq_of_silent (s := { s with inputs := rest }) (.illegalCounts hn sn hacc hcount)

/-- Settles O53: PORT and DDR event by event, and the level from the two. -/
theorem gpioReferenceModel : Obligations.GpioReferenceModel := by
  intro e p q v g b c us
  refine ⟨⟨ddrBit_gpio_dirOut e p q, portBit_gpio_dirOut e p q⟩,
    ⟨portBit_gpio_pin e p q v, ddrBit_gpio e q (by simp)⟩, ⟨?group, ddrBit_gpio e q (by simp)⟩,
    ⟨rfl, rfl⟩, level_eq_ite e q⟩
  case group =>
    rw [portBit_gpio_group]
    simp only [eq_groupOf_iff, bitOf]

/-- Settles O54: the first 26 events are the eight bits and the latch pulse. -/
theorem shiftRegisterHoldsTheShiftByte : Obligations.ShiftRegisterHoldsTheShiftByte := by
  intro p e n sl hdistinct hdrives hclock hlatch
  obtain ⟨d, hview⟩ := exists_shiftView_of_low (hdrives p.data (by simp)) hclock hlatch n
  obtain ⟨d', hview'⟩ := hview.shiftEvents hdistinct sl.sh
  rw [emitSlot_take_eq_shiftEvents]
  exact ⟨hview'.srBuf, hview'.srOut, hview'.draws⟩

/-- Settles O55: the slot leaves each position's pattern bit on its line (`lineLevel_takeEvents_emitSlot`) and the premises as
they were; the LEDs of a scan slot's pattern are those of one source row, or none (`litBy_scanPattern_generate`). -/
theorem slotShowsItsPattern : Obligations.SlotShowsItsPattern := by
  refine ⟨litBy_scanPattern_generate, fun p w e n pat h hstart => ?_⟩
  have hlines := lineLevel_takeEvents_emitSlot h hstart n pat
  exact ⟨hlines, ledLit_eq_litBy hlines, (slotStart_takeEvents_emitSlot h hstart n pat).1⟩

/-- Settles O57: such an event shifts in a free bit (`shiftsInFreeBit_of_open_clock`); the PIN and the GROUP event are such, for
each raises the clock from low, changes the data level, and leaves the latch line or drives it low. -/
theorem sharedClockAndDataShiftInAFreeBit : Obligations.SharedClockAndDataShiftInAFreeBit := by
  intro p e n hlow
  refine ⟨fun ev => shiftsInFreeBit_of_open_clock hlow, fun hdata hlatch => ?pin,
    fun g b v hclock hdata hset hv hb hlatch => ?group⟩
  case pin =>
    rw [← pinBit_eq_pinBit_iff] at hdata hlatch
    have hd : e.level p.data = some false := (level_congr hdata).trans hlow
    refine shiftsInFreeBit_of_open_clock hlow ?_ ?_ ?_
    · simp [level_gpio_pin, hlow]
    · simp [level_gpio_pin, hd, hdata]
    · rw [level_gpio_pin, if_neg (Ne.symm hlatch)]
      rintro ⟨h0, h1⟩
      exact nomatch h0.symm.trans h1
  case group =>
    simp only [← eq_groupOf_iff] at hclock hdata hlatch
    refine shiftsInFreeBit_of_open_clock hlow ?_ ?_ ?_
    · rw [level_gpio_group_of_level hlow, if_pos hclock]
      exact congrArg some hset
    · rw [level_gpio_group_of_level hv, if_pos hdata, hv, bitOf, hb]
      cases v <;> simp
    · rintro ⟨h0, h1⟩
      have hlow' := level_gpio_group_of_level h0 g b
      rw [bitOf, ite_eq_right_iff.2 (hlatch h0), h1] at hlow'
      exact nomatch hlow'

end Sys2Proof.Machine
end

section
/-!
PROOFS of the family 70_reset_and_hazards, the runs: the environment accepts every presented event, or stalls
(70_reset_and_hazards.md R304, 93_implementation_defined.md U11).
-/
namespace Sys2Proof.Machine

open Sys2Proof.Claims

/-- As many steps as events are presented drain the queue, while no move but a word or a read is next (log 3). -/
theorem run_pending_length_eq_drain {s : State}
    (hin : s.inputs = [] ∨ (∃ w rest, s.inputs = .command w :: rest) ∨ ∃ a rest, s.inputs = .readback a :: rest) :
    (Host.Core.run Sys2Proof.core s.pending.length s : Result) = .next s.drain := by
  induction hp : s.pending generalizing s with
  | nil => exact (run_zero s).trans (by rw [drain_of_nil hp])
  | cons ev evs ih =>
    have hstep : step s = .next s.acceptEvent := step_of_busy (by simp [hp]) hin
    have hrest := ih (s := s.acceptEvent) (by simpa using hin) (by simp [hp])
    rw [List.length_cons, run_succ hstep, hrest, drain_acceptEvent]

end Sys2Proof.Machine
end

section
/-!
PROOFS of the family 70_reset_and_hazards, between two slots: after any number of a slot's events every line shows what it
showed before the slot or the slot's own bit, for a GROUP event writes the bit to a direct line, and the one latch edge of the
slot puts the whole shift byte on the outputs (70_reset_and_hazards.md R303).
-/
namespace Sys2Proof.Machine

open Sys2Proof.Claims

/-! ## The events of a slot -/

/-- The events of a slot before its latch edge: the eight bits (44_serializer.md R201). -/
def bitEvents (p : ShiftPins) (sh : Byte) : List Event := (List.range 8).flatMap fun b => emitBit p (sh.getLsbD b)

/-- The events of a slot after its latch edge (R203, R204). -/
def tailEvents (p : ShiftPins) (sl : Slot) : List Event :=
  [.pin p.latch false, .group .lo (sl.byte .lo), .group .hi (sl.byte .hi)]

theorem emitSlot_eq_bitEvents_append (p : ShiftPins) (sl : Slot) :
    emitSlot p sl = bitEvents p sl.sh ++ .pin p.latch true :: tailEvents p sl := rfl

/-- The bits drive data and clock (44_serializer.md R202). -/
theorem mem_bitEvents_cases {p : ShiftPins} {sh : Byte} {ev : Event} (hev : ev ∈ bitEvents p sh) :
    ∃ c ∈ [p.data, p.sclk], ∃ v, ev = .pin c v := by
  simp only [bitEvents, emitBit, List.mem_flatMap, List.mem_cons, List.not_mem_nil, or_false] at hev
  obtain ⟨b, -, rfl | rfl | rfl⟩ := hev
  · exact ⟨p.data, by simp, _, rfl⟩
  · exact ⟨p.sclk, by simp, _, rfl⟩
  · exact ⟨p.sclk, by simp, _, rfl⟩

/-- The latch falls, or a group takes the slot's byte. -/
theorem mem_tailEvents_cases {p : ShiftPins} {sl : Slot} {ev : Event} (hev : ev ∈ tailEvents p sl) :
    ev = .pin p.latch false ∨ ∃ g, ev = .group g (sl.byte g) := by
  simp only [tailEvents, List.mem_cons, List.not_mem_nil, or_false] at hev
  exact hev.imp_right fun hgroup => hgroup.elim (⟨.lo, ·⟩) (⟨.hi, ·⟩)

/-- A slot drives the three control pins and writes its own bytes to the groups (44_serializer.md R200). -/
theorem mem_emitSlot_cases {p : ShiftPins} {sl : Slot} {ev : Event} (hev : ev ∈ emitSlot p sl) :
    (∃ c ∈ [p.data, p.sclk, p.latch], ∃ v, ev = .pin c v) ∨ ∃ g, ev = .group g (sl.byte g) := by
  rw [emitSlot_eq_bitEvents_append, List.mem_append, List.mem_cons] at hev
  obtain hbit | rfl | htail := hev
  · obtain ⟨c, hc, v, rfl⟩ := mem_bitEvents_cases hbit
    exact .inl ⟨c, List.mem_append_left [p.latch] hc, v, rfl⟩
  · exact .inl ⟨p.latch, by simp, true, rfl⟩
  · exact (mem_tailEvents_cases htail).imp_left fun hfall => ⟨p.latch, by simp, false, hfall⟩

/-! ## Direct lines -/

/-- Events of a slot, whichever, leave an output that is no control pin as it was or at the slot's bit. -/
theorem level_takeEvents_of_subset_emitSlot {p : ShiftPins} {sl : Slot} {q : PinNum}
    (hq : ∀ c ∈ [p.data, p.sclk, p.latch], pinBit q ≠ pinBit c) {evs : List Event} (hevs : evs ⊆ emitSlot p sl)
    {en : Env × Nat} {u : Bool} (hu : en.1.level q = some u) :
    (takeEvents p en evs).1.level q = some u ∨ (takeEvents p en evs).1.level q = some (sl.pinLevel q) := by
  induction evs generalizing en u with
  | nil => exact .inl hu
  | cons ev evs ih =>
    obtain ⟨hev, hrest⟩ := List.cons_subset.1 hevs
    rw [takeEvents_cons]
    obtain ⟨c, hc, v, rfl⟩ | ⟨g, rfl⟩ := mem_emitSlot_cases hev
    · refine ih hrest ?_
      rw [level_takeEvent, level_gpio_pin, if_neg (hq c hc).symm, hu]
    · have hlevel := level_gpio_group_of_level hu g (sl.byte g)
      rw [← level_takeEvent q p en] at hlevel
      split_ifs at hlevel with hg
      · rw [byte_getLsbD_of_eq hg] at hlevel
        exact .inr (or_self_iff.1 (ih hrest hlevel))
      · exact ih hrest hlevel

/-! ## Shifted lines -/

/-- The event raises the latch line in no environment. -/
def neverRaisesLatch (p : ShiftPins) (ev : Event) : Prop :=
  ∀ e : Env, rises (e.level p.latch) ((e.gpio ev).level p.latch) = false

theorem rises_self (l : Option Bool) : rises l l = false := by
  cases l with
  | none => rfl
  | some b => rw [rises_some, Bool.not_and_self]

theorem rises_map_false (l l' : Option Bool) : rises l (l'.map fun _ => false) = false := by
  cases l' <;> simp [rises]

theorem neverRaisesLatch_pin_of_ne {p : ShiftPins} {c : PinNum} (h : pinBit c ≠ pinBit p.latch) (v : Bool) :
    neverRaisesLatch p (.pin c v) := by
  intro e
  rw [level_gpio_pin, if_neg h, rises_self]

theorem neverRaisesLatch_latch_low (p : ShiftPins) : neverRaisesLatch p (.pin p.latch false) := by
  intro e
  rw [level_gpio_pin, if_pos rfl, rises_map_false]

theorem neverRaisesLatch_group {p : ShiftPins} {sl : Slot} (h : sl.pinLevel p.latch = false) (g : Group) :
    neverRaisesLatch p (.group g (sl.byte g)) := by
  intro e
  rw [level_gpio_group]
  split_ifs with hg
  · rw [byte_getLsbD_of_eq hg, h, rises_map_false]
  · exact rises_self _

/-- Without a latch edge the outputs of the shift register stay (60_exceptions.md R273). -/
theorem srOut_takeEvents_of_neverRaisesLatch {p : ShiftPins} {evs : List Event} (h : ∀ ev ∈ evs, neverRaisesLatch p ev)
    (en : Env × Nat) : (takeEvents p en evs).1.srOut = en.1.srOut := by
  induction evs generalizing en with
  | nil => rfl
  | cons ev evs ih =>
    obtain ⟨hev, hevs⟩ := List.forall_mem_cons.1 h
    have hedge : (edgesOf p en.1 (en.1.gpio ev)).latch = false := hev en.1
    rw [takeEvents_cons, ih hevs, takeEvent, shiftRegister_srOut, hedge, if_neg Bool.false_ne_true]
    exact (gpio_shiftRegister en.1 ev).2

/-- The latch is low through the bits. -/
theorem neverRaisesLatch_of_mem_bitEvents {p : ShiftPins} (hdistinct : ([p.data, p.sclk, p.latch].map pinBit).Nodup)
    {sh : Byte} {ev : Event} (hev : ev ∈ bitEvents p sh) : neverRaisesLatch p ev := by
  obtain ⟨-, hdata, hclock⟩ := controls_nodup_iff.1 hdistinct
  obtain ⟨c, hc, v, rfl⟩ := mem_bitEvents_cases hev
  obtain rfl | rfl := List.mem_pair.1 hc
  · exact neverRaisesLatch_pin_of_ne hdata v
  · exact neverRaisesLatch_pin_of_ne hclock v

/-- After the latch edge the latch only falls. -/
theorem neverRaisesLatch_of_mem_tailEvents {p : ShiftPins} {sl : Slot} (hlatch : sl.pinLevel p.latch = false) {ev : Event}
    (hev : ev ∈ tailEvents p sl) : neverRaisesLatch p ev := by
  obtain rfl | ⟨g, rfl⟩ := mem_tailEvents_cases hev
  · exact neverRaisesLatch_latch_low p
  · exact neverRaisesLatch_group hlatch g

/-- The eight bits and the latch edge put the slot's shift byte on the outputs. -/
theorem ShiftView.srOut_latchEdge {p : ShiftPins} {d : Bool} {buf out : Byte} {n : Nat} {en : Env × Nat}
    (h : ShiftView p d false false buf out n en) (hdistinct : ([p.data, p.sclk, p.latch].map pinBit).Nodup) (sh : Byte) :
    (takeEvent p (takeEvents p en (bitEvents p sh)) (.pin p.latch true)).1.srOut = sh := by
  obtain ⟨d', hbits⟩ := h.bits hdistinct sh.getLsbD (List.range 8)
  rw [foldl_shiftIn_eq] at hbits
  exact (hbits.setLatch hdistinct true).srOut

/-- After any number of a slot's events the outputs hold what they held or the slot's shift byte: they change at the latch
edge, whole. -/
theorem ShiftView.srOut_take {p : ShiftPins} {d : Bool} {buf out : Byte} {n : Nat} {en : Env × Nat} {sl : Slot}
    (h : ShiftView p d false false buf out n en) (hdistinct : ([p.data, p.sclk, p.latch].map pinBit).Nodup)
    (hlatch : sl.pinLevel p.latch = false) (k : Nat) :
    (takeEvents p en ((emitSlot p sl).take k)).1.srOut = out ∨
      (takeEvents p en ((emitSlot p sl).take k)).1.srOut = sl.sh := by
  rw [emitSlot_eq_bitEvents_append]
  obtain hk | hk := le_or_gt k (bitEvents p sl.sh).length
  · left
    rw [List.take_append_of_le_length hk, srOut_takeEvents_of_neverRaisesLatch, h.srOut]
    exact fun ev hev => neverRaisesLatch_of_mem_bitEvents hdistinct (List.mem_of_mem_take hev)
  · right
    obtain ⟨j, rfl⟩ := Nat.exists_eq_add_of_lt hk
    rw [Nat.add_assoc, List.take_length_add_append, List.take_succ_cons, takeEvents_append, takeEvents_cons,
      srOut_takeEvents_of_neverRaisesLatch, h.srOut_latchEdge hdistinct]
    exact fun ev hev => neverRaisesLatch_of_mem_tailEvents hlatch (List.mem_of_mem_take hev)

/-! ## All lines and the LEDs -/

/-- With collision-free wiring, after any number of a slot's events every line shows what it showed or its pattern bit. -/
theorem lineLevel_takeEvents_take {p : ShiftPins} {w : Wiring} {e : Env} (h : collisionFree p w) (hstart : slotStart p w e)
    (n k : Nat) (pat : RowColBits) (q : Pos) :
    let u := takeEvents p (e, n) ((emitSlot p (compileSlot (buildRoutes w) pat)).take k)
    u.1.lineLevel (buildRoutes w)[q] = e.lineLevel (buildRoutes w)[q] ∨
      u.1.lineLevel (buildRoutes w)[q] = some (pat.getLsbD q.val) := by
  intro u
  obtain ⟨hdrives, hclock, hlatch⟩ := hstart
  rw [buildRoutes_getElem]
  obtain ⟨i, -, hq⟩ | ⟨j, -, hq⟩ := routeOf_cases h.1 q
  · obtain ⟨b, hb⟩ := Option.isSome_iff_exists.1 (hdrives w.hardPins[i] (by simp))
    have hline : e.lineLevel (.direct w.hardPins[i]) = some b := hb
    rw [hq, ← compileSlot_pinLevel_of_direct h hq, hline]
    exact level_takeEvents_of_subset_emitSlot (fun c => pinBit_ne_of_routeOf_direct h hq) (List.take_subset _ _) hb
  · obtain ⟨d, hview⟩ := exists_shiftView_of_low (hdrives p.data (by simp)) hclock hlatch n
    rw [hq, lineLevel_eq, lineLevel_eq, ← compileSlot_sh_of_shifted h hq]
    exact (hview.srOut_take (controls_nodup_of_collisionFree h) (compileSlot_pinLevel_of_control h (by simp) pat) k).imp
      (fun hout => by rw [hout]) fun hout => by rw [hout]

/-- Where every line shows its blank bit or its bit of a pattern, only the pattern's LEDs can be lit: no blank line selects a
row or drives a column (43_output_compiler.md R181). -/
theorem litBy_of_ledLit_of_blank_or {e : Env} {route : Vector Route 16} {pat : RowColBits}
    (h : ∀ q : Pos, e.lineLevel route[q] = some (Config.blank.getLsbD q.val) ∨
      e.lineLevel route[q] = some (pat.getLsbD q.val)) {r c : Fin 8} (hlit : e.ledLit route r c = true) :
    litBy pat r c = true := by
  simp only [Env.ledLit, Bool.and_eq_true, beq_iff_eq] at hlit
  obtain ⟨hrow, hcol⟩ := hlit
  have hpat (q : Pos) {v : Bool} (hv : e.lineLevel route[q] = some v) (hdark : Config.blank.getLsbD q.val = !v) :
      pat.getLsbD q.val = v := by
    have hline := h q
    rw [hv, hdark] at hline
    simpa [eq_comm] using hline
  have hrow' : pat.getLsbD (8 + r.val) = false := hpat ⟨8 + r.val, by omega⟩ hrow (blank_getLsbD_row r.isLt)
  have hcol' : pat.getLsbD c.val = true := hpat ⟨c.val, by omega⟩ hcol (blank_getLsbD_column c.isLt)
  rw [litBy, hrow', hcol']
  rfl

end Sys2Proof.Machine
end

section
/-!
PROOFS of the family 70_reset_and_hazards: the obligations, each a short use of the lemmas above.
-/
namespace Sys2Proof.Machine

open Sys2Proof.Claims

/-- Settles O10: the run ends in the drained state (`run_pending_length_eq_drain`). -/
theorem presentedEventsAreAllDelivered : Obligations.PresentedEventsAreAllDelivered :=
  fun s hin => ⟨s.drain, run_pending_length_eq_drain hin, rfl, rfl, rfl, rfl, rfl, rfl⟩

/-- Settles O11, by induction on the number of stalls. -/
theorem stalledBlockStaysBusy : Obligations.StalledBlockStaysBusy := by
  intro n
  induction n with
  | zero =>
    rintro s rest rfl
    exact run_zero s
  | succ n ih =>
    intro s rest hin
    exact (run_succ (step_of_stall hin)).trans (ih { s with inputs := List.replicate n .stall ++ rest } rest rfl)

/-- Settles O58: midway through a slot every line shows the old bit or the new one (`lineLevel_takeEvents_take`), and the
bits of the blank one of the two light nothing (`litBy_of_ledLit_of_blank_or`). -/
theorem noGhostingBetweenSlots : Obligations.NoGhostingBetweenSlots := by
  intro p w e n k prev pat h hstart hprev hblank u r c hlit
  have hlines (q : Pos) : u.1.lineLevel (buildRoutes w)[q] = some (prev.getLsbD q.val) ∨
      u.1.lineLevel (buildRoutes w)[q] = some (pat.getLsbD q.val) := by
    rw [← hprev q]
    exact lineLevel_takeEvents_take h hstart n k pat q
  obtain rfl | rfl := hblank
  · exact .inr (litBy_of_ledLit_of_blank_or hlines hlit)
  · exact .inl (litBy_of_ledLit_of_blank_or (fun q => (hlines q).symm) hlit)

/-- Settles O2: the reset action on the state whose move is taken. -/
theorem resetAbandonsTheCommandAndKeepsTheEnvironment : Obligations.ResetAbandonsTheCommandAndKeepsTheEnvironment :=
  fun _ _ => step_of_reset

end Sys2Proof.Machine
end
